-- ==== Sys2Proof/Word.lean ====
section
/-! DEFINITION. The words of M1V-CORE: 32-bit command words, source bytes, strings of stream bits, and rows of eight. -/

namespace Sys2Proof

/-- A command word of the command port (10_state.md R35, 30_encoding.md R81). -/
abbrev Word := BitVec 32

/-- A byte of the byte source (00_scope.md R10). -/
abbrev Byte := BitVec 8

/-- A string of stream bits in transmission order, the first bit first (00_scope.md R10). A peeked window is such a
string: a table look-up compares its leading bits and no arithmetic is done on it (45_arithmetic_and_control.md R205). -/
abbrev Bits := List Bool

/-- Eight like things in order: a row or a column of a block, the inputs or the outputs of the 1-D kernel (43_idct.md R186). -/
structure Vec8 (α : Type) where
  v0 : α
  v1 : α
  v2 : α
  v3 : α
  v4 : α
  v5 : α
  v6 : α
  v7 : α
deriving DecidableEq, Repr

end Sys2Proof
end

