-- ==== Sys2Proof/Config.lean ====
section
/-! DEFINITION. The implementation parameters of 00_scope.md R7, one field each under the rule's own name, with the values
that rule takes (log entry 16). Two fields hold functions, `Config.idct1d` (IDCT1D) and `Config.round` (ROUND): their values
stand in Machine/Kernel.lean, and the code tables in Decode.lean, where a repair can reach them. -/

namespace Sys2Proof.Config

/-- The two settings of `CHROMA_HALVE` (00_scope.md R7, 42_mvr.md R169). -/
inductive ChromaHalve where
  /-- arithmetic shift right by 1, toward minus infinity -/
  | asr
  /-- division by 2 toward zero -/
  | trunc
deriving DecidableEq, Repr

/-- The two settings of `ESC_FORBIDDEN` (00_scope.md R7, 30_encoding.md R104). -/
inductive EscForbidden where
  /-- forbidden escape levels are returned as computed -/
  | pass
  /-- forbidden escape levels raise `InvalidVlcCode` after the fields are consumed -/
  | fault
deriving DecidableEq, Repr

/-- The order of a source byte's bits in the stream (00_scope.md R7). R7 names no alternative; the second setting is the
model's (log entry 16). -/
inductive BitOrder where
  /-- most significant bit of each byte first -/
  | msbFirst
  /-- least significant bit of each byte first -/
  | lsbFirst
deriving DecidableEq, Repr

/-- A 1-D kernel before rounding: what may stand for `IDCT1D` (43_idct.md R191). It is total by its type; the rounding and the
shift are applied to what it gives. The value taken is `Config.idct1d`. -/
structure Kernel where
  network : Vec8 Int → Vec8 Int

/-- `PEEK_MAX`: the largest `n` of `BitPeek(n)` (20_memory.md R52). -/
def peekMax : Nat := 32

def wMba : Nat := 11
def wMbtI : Nat := 2
def wMbtP : Nat := 6
def wMbtB : Nat := 6
def wMbtD : Nat := 1
def wMv : Nat := 11
def wCbp : Nat := 9
def wDcl : Nat := 7
def wDcc : Nat := 8
/-- 16 code bits and the sign bit. -/
def wAc : Nat := 17

/-- `BIT_ORDER` (D5). -/
def bitOrder : BitOrder := .msbFirst

/-- `POS_W`: the width of the cursor; none is unbounded (D7). With a width, a stream too long for it is refused. -/
def posW : Option Nat := none

/-- `INCR_W`: the width of the address increment; none is unbounded (D25). With a width, a sum too large for it is refused. -/
def incrW : Option Nat := none

/-- `F_CODE_W`: the width of an f-code. -/
abbrev fCodeW : Nat := 3

/-- `F_CODE_W`: the legal f-codes, 1 to 7. -/
def fCodeMin : Nat := 1
def fCodeMax : Nat := 7

/-- `F` range: the values of a scale (D11). -/
def fRange : List Nat := [1, 2, 4, 8, 16, 32, 64]

/-- `PREV_W`: the width of an MVR accumulator, two's complement (D14). -/
abbrev prevW : Nat := 12

/-- `CB_W`: the width of an entry of the coefficient buffer, two's complement (D19). -/
abbrev cbW : Nat := 16

/-- `P0`: the cursor at the start of a run (10_state.md R37). -/
def p0 : Nat := 0

def chromaHalve : ChromaHalve := .asr

def escForbidden : EscForbidden := .pass

/-- `ERR_STICKY`: the first error is kept until reset (60_exceptions.md R216). -/
def errSticky : Bool := true

/-- `COEF_MIN`, `COEF_MAX`: the legal IDCT input range (43_idct.md R183). -/
def coefMin : Int := -2048
def coefMax : Int := 2047

/-- `S_ROW`, `S_COL`: the final right shifts of the two passes (43_idct.md R188). -/
def sRow : Nat := 19
def sCol : Nat := 28

/-- `ACC_W`: the width of the kernel's accumulators (D19). The kernel computes on exact integers (43_idct.md R185); that every
one of them fits this width is a statement (R189), not a truncation. -/
def accW : Nat := 48

/-- `IDCT_CLAMP`: the bounds the residuals are saturated to; none does not saturate (D19). -/
def idctClamp : Option (Int × Int) := none

end Sys2Proof.Config
end

