-- ==== Sys2Proof/Syntax.lean ====
section
/-! DEFINITION. The instructions: one constructor per row of spec/opcode_table.json (323 rows of three formats,
30_encoding.md R80), and the names of the code tables. -/

namespace Sys2Proof

/-- The eleven code tables a VLD command can decode with (10_state.md R33, 30_encoding.md R89 to R99). -/
inductive Table where
  | mba | mbtI | mbtP | mbtB | mbtD | mv | cbp | dcl | dcc | acf | acn
deriving DecidableEq, Repr

/-- What the next bits are read as. The stream carries no marker of it (30_encoding.md R80): the command port carries
command words, and each command reads the stream with one table or one field. -/
inductive Ctx where
  /-- a 32-bit word of the command port -/
  | command
  /-- a codeword of one table -/
  | vlc (t : Table)
  /-- the DC differential field of `size` bits (R101) -/
  | dcDiff (size : Nat)
  /-- the motion residual field of `rSize` bits (R102) -/
  | residual (rSize : Nat)
deriving DecidableEq, Repr

/-- One constructor per row of the opcode table. A command word carries the operands of R107 as the bits of their fields.
The rows that carry fields stand first: compiled Lean numbers only the first 244 constructors that do. -/
inductive Instr where
  -- Command words (30_encoding.md R82, R107). Bits the table assigns to no operand are ignored (R81) and not kept.
  | nop
  | vldMba
  | vldMbtI
  | vldMbtP
  | vldMbtB
  | vldMbtD
  | vldMv
  | vldCbp
  | vldDcl
  | vldDcc
  | vldDcd (size : BitVec 4)
  | vldAcf
  | vldAcn
  | mvrSetupF (fullPel : Bool) (fCode : BitVec Config.fCodeW)
  | mvrSetupB (fullPel : Bool) (fCode : BitVec Config.fCodeW)
  | mvrResetF
  | mvrResetB
  | mvrCalcF (codeH : BitVec 6) (rH : BitVec 6) (codeV : BitVec 6) (rV : BitVec 6)
  | mvrCalcB (codeH : BitVec 6) (rH : BitVec 6) (codeV : BitVec 6) (rV : BitVec 6)
  | cbWr (idx : BitVec 6) (value : BitVec 16)
  | cbRd (idx : BitVec 6)
  | idctBlk
  | status
  -- Rows of `T_AC` (R98), shared by `T_ACF` and `T_ACN`, with their sign bit `s`; the rows only one of the two has (R99);
  -- the three forms of the escape (R100) with their run and level bytes.
  | tAcRun1Level1 (s : Bool)
  | tAcRun0Level2 (s : Bool)
  | tAcRun2Level1 (s : Bool)
  | tAcRun0Level3 (s : Bool)
  | tAcRun3Level1 (s : Bool)
  | tAcRun4Level1 (s : Bool)
  | tAcRun1Level2 (s : Bool)
  | tAcRun5Level1 (s : Bool)
  | tAcRun6Level1 (s : Bool)
  | tAcRun7Level1 (s : Bool)
  | tAcRun0Level4 (s : Bool)
  | tAcRun2Level2 (s : Bool)
  | tAcRun8Level1 (s : Bool)
  | tAcRun9Level1 (s : Bool)
  | tAcRun0Level5 (s : Bool)
  | tAcRun0Level6 (s : Bool)
  | tAcRun1Level3 (s : Bool)
  | tAcRun3Level2 (s : Bool)
  | tAcRun10Level1 (s : Bool)
  | tAcRun11Level1 (s : Bool)
  | tAcRun12Level1 (s : Bool)
  | tAcRun13Level1 (s : Bool)
  | tAcRun0Level7 (s : Bool)
  | tAcRun1Level4 (s : Bool)
  | tAcRun2Level3 (s : Bool)
  | tAcRun4Level2 (s : Bool)
  | tAcRun5Level2 (s : Bool)
  | tAcRun14Level1 (s : Bool)
  | tAcRun15Level1 (s : Bool)
  | tAcRun16Level1 (s : Bool)
  | tAcRun0Level8 (s : Bool)
  | tAcRun0Level9 (s : Bool)
  | tAcRun0Level10 (s : Bool)
  | tAcRun0Level11 (s : Bool)
  | tAcRun1Level5 (s : Bool)
  | tAcRun2Level4 (s : Bool)
  | tAcRun3Level3 (s : Bool)
  | tAcRun4Level3 (s : Bool)
  | tAcRun6Level2 (s : Bool)
  | tAcRun7Level2 (s : Bool)
  | tAcRun8Level2 (s : Bool)
  | tAcRun17Level1 (s : Bool)
  | tAcRun18Level1 (s : Bool)
  | tAcRun19Level1 (s : Bool)
  | tAcRun20Level1 (s : Bool)
  | tAcRun21Level1 (s : Bool)
  | tAcRun0Level12 (s : Bool)
  | tAcRun0Level13 (s : Bool)
  | tAcRun0Level14 (s : Bool)
  | tAcRun0Level15 (s : Bool)
  | tAcRun1Level6 (s : Bool)
  | tAcRun1Level7 (s : Bool)
  | tAcRun2Level5 (s : Bool)
  | tAcRun3Level4 (s : Bool)
  | tAcRun5Level3 (s : Bool)
  | tAcRun9Level2 (s : Bool)
  | tAcRun10Level2 (s : Bool)
  | tAcRun22Level1 (s : Bool)
  | tAcRun23Level1 (s : Bool)
  | tAcRun24Level1 (s : Bool)
  | tAcRun25Level1 (s : Bool)
  | tAcRun26Level1 (s : Bool)
  | tAcRun0Level16 (s : Bool)
  | tAcRun0Level17 (s : Bool)
  | tAcRun0Level18 (s : Bool)
  | tAcRun0Level19 (s : Bool)
  | tAcRun0Level20 (s : Bool)
  | tAcRun0Level21 (s : Bool)
  | tAcRun0Level22 (s : Bool)
  | tAcRun0Level23 (s : Bool)
  | tAcRun0Level24 (s : Bool)
  | tAcRun0Level25 (s : Bool)
  | tAcRun0Level26 (s : Bool)
  | tAcRun0Level27 (s : Bool)
  | tAcRun0Level28 (s : Bool)
  | tAcRun0Level29 (s : Bool)
  | tAcRun0Level30 (s : Bool)
  | tAcRun0Level31 (s : Bool)
  | tAcRun0Level32 (s : Bool)
  | tAcRun0Level33 (s : Bool)
  | tAcRun0Level34 (s : Bool)
  | tAcRun0Level35 (s : Bool)
  | tAcRun0Level36 (s : Bool)
  | tAcRun0Level37 (s : Bool)
  | tAcRun0Level38 (s : Bool)
  | tAcRun0Level39 (s : Bool)
  | tAcRun0Level40 (s : Bool)
  | tAcRun1Level8 (s : Bool)
  | tAcRun1Level9 (s : Bool)
  | tAcRun1Level10 (s : Bool)
  | tAcRun1Level11 (s : Bool)
  | tAcRun1Level12 (s : Bool)
  | tAcRun1Level13 (s : Bool)
  | tAcRun1Level14 (s : Bool)
  | tAcRun1Level15 (s : Bool)
  | tAcRun1Level16 (s : Bool)
  | tAcRun1Level17 (s : Bool)
  | tAcRun1Level18 (s : Bool)
  | tAcRun6Level3 (s : Bool)
  | tAcRun11Level2 (s : Bool)
  | tAcRun12Level2 (s : Bool)
  | tAcRun13Level2 (s : Bool)
  | tAcRun14Level2 (s : Bool)
  | tAcRun15Level2 (s : Bool)
  | tAcRun16Level2 (s : Bool)
  | tAcRun27Level1 (s : Bool)
  | tAcRun28Level1 (s : Bool)
  | tAcRun29Level1 (s : Bool)
  | tAcRun30Level1 (s : Bool)
  | tAcRun31Level1 (s : Bool)
  | tAcfRun0Level1First (s : Bool)
  | tAcnEndOfBlock
  | tAcnRun0Level1Next (s : Bool)
  | tAcEscapeShort (run : BitVec 6) (lv : BitVec 8)
  | tAcEscapeLongPos (run : BitVec 6) (m : BitVec 8)
  | tAcEscapeLongNeg (run : BitVec 6) (m : BitVec 8)
  -- The DC differential field of 1 to 8 bits (R101), read by `VLD.DCD`.
  | dcDiffSize1 (d : BitVec 1)
  | dcDiffSize2 (d : BitVec 2)
  | dcDiffSize3 (d : BitVec 3)
  | dcDiffSize4 (d : BitVec 4)
  | dcDiffSize5 (d : BitVec 5)
  | dcDiffSize6 (d : BitVec 6)
  | dcDiffSize7 (d : BitVec 7)
  | dcDiffSize8 (d : BitVec 8)
  -- The motion residual field of 1 to 6 bits (R102), read by the HOST with `BR.READ` (20_memory.md R70).
  | mvResidualRSize1 (r : BitVec 1)
  | mvResidualRSize2 (r : BitVec 2)
  | mvResidualRSize3 (r : BitVec 3)
  | mvResidualRSize4 (r : BitVec 4)
  | mvResidualRSize5 (r : BitVec 5)
  | mvResidualRSize6 (r : BitVec 6)
  -- Rows of `T_MBA` (R89), decoded by `VLD.MBA`.
  | tMbaIncr1
  | tMbaIncr2
  | tMbaIncr3
  | tMbaIncr4
  | tMbaIncr5
  | tMbaIncr6
  | tMbaIncr7
  | tMbaIncr8
  | tMbaIncr9
  | tMbaIncr10
  | tMbaIncr11
  | tMbaIncr12
  | tMbaIncr13
  | tMbaIncr14
  | tMbaIncr15
  | tMbaIncr16
  | tMbaIncr17
  | tMbaIncr18
  | tMbaIncr19
  | tMbaIncr20
  | tMbaIncr21
  | tMbaIncr22
  | tMbaIncr23
  | tMbaIncr24
  | tMbaIncr25
  | tMbaIncr26
  | tMbaIncr27
  | tMbaIncr28
  | tMbaIncr29
  | tMbaIncr30
  | tMbaIncr31
  | tMbaIncr32
  | tMbaIncr33
  | tMbaStuffing
  | tMbaEscape
  -- Rows of `T_MBT_I` (R90). The name lists quant, fwd, bwd, pattern, intra.
  | tMbtIQ0f0b0p0i1
  | tMbtIQ1f0b0p0i1
  -- Rows of `T_MBT_P` (R91).
  | tMbtPQ0f1b0p1i0
  | tMbtPQ0f0b0p1i0
  | tMbtPQ0f1b0p0i0
  | tMbtPQ0f0b0p0i1
  | tMbtPQ1f1b0p1i0
  | tMbtPQ1f0b0p1i0
  | tMbtPQ1f0b0p0i1
  -- Rows of `T_MBT_B` (R92).
  | tMbtBQ0f1b1p0i0
  | tMbtBQ0f1b1p1i0
  | tMbtBQ0f0b1p0i0
  | tMbtBQ0f0b1p1i0
  | tMbtBQ0f1b0p0i0
  | tMbtBQ0f1b0p1i0
  | tMbtBQ0f0b0p0i1
  | tMbtBQ1f1b1p1i0
  | tMbtBQ1f1b0p1i0
  | tMbtBQ1f0b1p1i0
  | tMbtBQ1f0b0p0i1
  -- The row of `T_MBT_D` (R93).
  | tMbtDQ0f0b0p0i1
  -- Rows of `T_MV` (R94); `M` before the number is a minus sign.
  | tMvCode0
  | tMvCode1
  | tMvCodeM1
  | tMvCode2
  | tMvCodeM2
  | tMvCode3
  | tMvCodeM3
  | tMvCode4
  | tMvCodeM4
  | tMvCode5
  | tMvCodeM5
  | tMvCode6
  | tMvCodeM6
  | tMvCode7
  | tMvCodeM7
  | tMvCode8
  | tMvCodeM8
  | tMvCode9
  | tMvCodeM9
  | tMvCode10
  | tMvCodeM10
  | tMvCode11
  | tMvCodeM11
  | tMvCode12
  | tMvCodeM12
  | tMvCode13
  | tMvCodeM13
  | tMvCode14
  | tMvCodeM14
  | tMvCode15
  | tMvCodeM15
  | tMvCode16
  | tMvCodeM16
  -- Rows of `T_CBP` (R95).
  | tCbpCbp60
  | tCbpCbp4
  | tCbpCbp8
  | tCbpCbp16
  | tCbpCbp32
  | tCbpCbp12
  | tCbpCbp48
  | tCbpCbp20
  | tCbpCbp40
  | tCbpCbp28
  | tCbpCbp44
  | tCbpCbp52
  | tCbpCbp56
  | tCbpCbp1
  | tCbpCbp61
  | tCbpCbp2
  | tCbpCbp62
  | tCbpCbp24
  | tCbpCbp36
  | tCbpCbp3
  | tCbpCbp63
  | tCbpCbp5
  | tCbpCbp9
  | tCbpCbp17
  | tCbpCbp33
  | tCbpCbp6
  | tCbpCbp10
  | tCbpCbp18
  | tCbpCbp34
  | tCbpCbp7
  | tCbpCbp11
  | tCbpCbp19
  | tCbpCbp35
  | tCbpCbp13
  | tCbpCbp49
  | tCbpCbp21
  | tCbpCbp41
  | tCbpCbp14
  | tCbpCbp50
  | tCbpCbp22
  | tCbpCbp42
  | tCbpCbp15
  | tCbpCbp51
  | tCbpCbp23
  | tCbpCbp43
  | tCbpCbp25
  | tCbpCbp37
  | tCbpCbp26
  | tCbpCbp38
  | tCbpCbp29
  | tCbpCbp45
  | tCbpCbp53
  | tCbpCbp57
  | tCbpCbp30
  | tCbpCbp46
  | tCbpCbp54
  | tCbpCbp58
  | tCbpCbp31
  | tCbpCbp47
  | tCbpCbp55
  | tCbpCbp59
  | tCbpCbp27
  | tCbpCbp39
  -- Rows of `T_DCL` (R96).
  | tDclSize0
  | tDclSize1
  | tDclSize2
  | tDclSize3
  | tDclSize4
  | tDclSize5
  | tDclSize6
  | tDclSize7
  | tDclSize8
  -- Rows of `T_DCC` (R97).
  | tDccSize0
  | tDccSize1
  | tDccSize2
  | tDccSize3
  | tDccSize4
  | tDccSize5
  | tDccSize6
  | tDccSize7
  | tDccSize8
deriving DecidableEq, Repr

end Sys2Proof
end

