-- ==== Sys2Proof/WellFormed.lean ====
section
/-! DEFINITION. Which terms of `Instr` stand for bit strings. -/

namespace Sys2Proof

/-- The short escape form exists only for a level byte that is neither 0x00 nor 0x80, which announce the long forms
(30_encoding.md R100). Every other constructor has an encoding at every value of its fields: an operand a command
refuses (R84 (c) to (e)) is encoded like any other and the command raises its error when it runs. -/
def Instr.wellFormed (i : Instr) : Bool :=
  match i with
  | .tAcEscapeShort _ lv => lv != 0x00#8 && lv != 0x80#8
  | .nop | .vldMba | .vldMbtI | .vldMbtP | .vldMbtB | .vldMbtD | .vldMv | .vldCbp | .vldDcl | .vldDcc
  | .vldDcd _ | .vldAcf | .vldAcn | .mvrSetupF _ _ | .mvrSetupB _ _ | .mvrResetF | .mvrResetB
  | .mvrCalcF _ _ _ _ | .mvrCalcB _ _ _ _ | .cbWr _ _ | .cbRd _ | .idctBlk | .status | .tMbaIncr1
  | .tMbaIncr2 | .tMbaIncr3 | .tMbaIncr4 | .tMbaIncr5 | .tMbaIncr6 | .tMbaIncr7 | .tMbaIncr8 | .tMbaIncr9
  | .tMbaIncr10 | .tMbaIncr11 | .tMbaIncr12 | .tMbaIncr13 | .tMbaIncr14 | .tMbaIncr15 | .tMbaIncr16
  | .tMbaIncr17 | .tMbaIncr18 | .tMbaIncr19 | .tMbaIncr20 | .tMbaIncr21 | .tMbaIncr22 | .tMbaIncr23
  | .tMbaIncr24 | .tMbaIncr25 | .tMbaIncr26 | .tMbaIncr27 | .tMbaIncr28 | .tMbaIncr29 | .tMbaIncr30
  | .tMbaIncr31 | .tMbaIncr32 | .tMbaIncr33 | .tMbaStuffing | .tMbaEscape | .tMbtIQ0f0b0p0i1
  | .tMbtIQ1f0b0p0i1 | .tMbtPQ0f1b0p1i0 | .tMbtPQ0f0b0p1i0 | .tMbtPQ0f1b0p0i0 | .tMbtPQ0f0b0p0i1
  | .tMbtPQ1f1b0p1i0 | .tMbtPQ1f0b0p1i0 | .tMbtPQ1f0b0p0i1 | .tMbtBQ0f1b1p0i0 | .tMbtBQ0f1b1p1i0
  | .tMbtBQ0f0b1p0i0 | .tMbtBQ0f0b1p1i0 | .tMbtBQ0f1b0p0i0 | .tMbtBQ0f1b0p1i0 | .tMbtBQ0f0b0p0i1
  | .tMbtBQ1f1b1p1i0 | .tMbtBQ1f1b0p1i0 | .tMbtBQ1f0b1p1i0 | .tMbtBQ1f0b0p0i1 | .tMbtDQ0f0b0p0i1 | .tMvCode0
  | .tMvCode1 | .tMvCodeM1 | .tMvCode2 | .tMvCodeM2 | .tMvCode3 | .tMvCodeM3 | .tMvCode4 | .tMvCodeM4
  | .tMvCode5 | .tMvCodeM5 | .tMvCode6 | .tMvCodeM6 | .tMvCode7 | .tMvCodeM7 | .tMvCode8 | .tMvCodeM8
  | .tMvCode9 | .tMvCodeM9 | .tMvCode10 | .tMvCodeM10 | .tMvCode11 | .tMvCodeM11 | .tMvCode12 | .tMvCodeM12
  | .tMvCode13 | .tMvCodeM13 | .tMvCode14 | .tMvCodeM14 | .tMvCode15 | .tMvCodeM15 | .tMvCode16 | .tMvCodeM16
  | .tCbpCbp60 | .tCbpCbp4 | .tCbpCbp8 | .tCbpCbp16 | .tCbpCbp32 | .tCbpCbp12 | .tCbpCbp48 | .tCbpCbp20
  | .tCbpCbp40 | .tCbpCbp28 | .tCbpCbp44 | .tCbpCbp52 | .tCbpCbp56 | .tCbpCbp1 | .tCbpCbp61 | .tCbpCbp2
  | .tCbpCbp62 | .tCbpCbp24 | .tCbpCbp36 | .tCbpCbp3 | .tCbpCbp63 | .tCbpCbp5 | .tCbpCbp9 | .tCbpCbp17
  | .tCbpCbp33 | .tCbpCbp6 | .tCbpCbp10 | .tCbpCbp18 | .tCbpCbp34 | .tCbpCbp7 | .tCbpCbp11 | .tCbpCbp19
  | .tCbpCbp35 | .tCbpCbp13 | .tCbpCbp49 | .tCbpCbp21 | .tCbpCbp41 | .tCbpCbp14 | .tCbpCbp50 | .tCbpCbp22
  | .tCbpCbp42 | .tCbpCbp15 | .tCbpCbp51 | .tCbpCbp23 | .tCbpCbp43 | .tCbpCbp25 | .tCbpCbp37 | .tCbpCbp26
  | .tCbpCbp38 | .tCbpCbp29 | .tCbpCbp45 | .tCbpCbp53 | .tCbpCbp57 | .tCbpCbp30 | .tCbpCbp46 | .tCbpCbp54
  | .tCbpCbp58 | .tCbpCbp31 | .tCbpCbp47 | .tCbpCbp55 | .tCbpCbp59 | .tCbpCbp27 | .tCbpCbp39 | .tDclSize0
  | .tDclSize1 | .tDclSize2 | .tDclSize3 | .tDclSize4 | .tDclSize5 | .tDclSize6 | .tDclSize7 | .tDclSize8
  | .tDccSize0 | .tDccSize1 | .tDccSize2 | .tDccSize3 | .tDccSize4 | .tDccSize5 | .tDccSize6 | .tDccSize7
  | .tDccSize8 | .tAcRun1Level1 _ | .tAcRun0Level2 _ | .tAcRun2Level1 _ | .tAcRun0Level3 _ | .tAcRun3Level1 _
  | .tAcRun4Level1 _ | .tAcRun1Level2 _ | .tAcRun5Level1 _ | .tAcRun6Level1 _ | .tAcRun7Level1 _
  | .tAcRun0Level4 _ | .tAcRun2Level2 _ | .tAcRun8Level1 _ | .tAcRun9Level1 _ | .tAcRun0Level5 _
  | .tAcRun0Level6 _ | .tAcRun1Level3 _ | .tAcRun3Level2 _ | .tAcRun10Level1 _ | .tAcRun11Level1 _
  | .tAcRun12Level1 _ | .tAcRun13Level1 _ | .tAcRun0Level7 _ | .tAcRun1Level4 _ | .tAcRun2Level3 _
  | .tAcRun4Level2 _ | .tAcRun5Level2 _ | .tAcRun14Level1 _ | .tAcRun15Level1 _ | .tAcRun16Level1 _
  | .tAcRun0Level8 _ | .tAcRun0Level9 _ | .tAcRun0Level10 _ | .tAcRun0Level11 _ | .tAcRun1Level5 _
  | .tAcRun2Level4 _ | .tAcRun3Level3 _ | .tAcRun4Level3 _ | .tAcRun6Level2 _ | .tAcRun7Level2 _
  | .tAcRun8Level2 _ | .tAcRun17Level1 _ | .tAcRun18Level1 _ | .tAcRun19Level1 _ | .tAcRun20Level1 _
  | .tAcRun21Level1 _ | .tAcRun0Level12 _ | .tAcRun0Level13 _ | .tAcRun0Level14 _ | .tAcRun0Level15 _
  | .tAcRun1Level6 _ | .tAcRun1Level7 _ | .tAcRun2Level5 _ | .tAcRun3Level4 _ | .tAcRun5Level3 _
  | .tAcRun9Level2 _ | .tAcRun10Level2 _ | .tAcRun22Level1 _ | .tAcRun23Level1 _ | .tAcRun24Level1 _
  | .tAcRun25Level1 _ | .tAcRun26Level1 _ | .tAcRun0Level16 _ | .tAcRun0Level17 _ | .tAcRun0Level18 _
  | .tAcRun0Level19 _ | .tAcRun0Level20 _ | .tAcRun0Level21 _ | .tAcRun0Level22 _ | .tAcRun0Level23 _
  | .tAcRun0Level24 _ | .tAcRun0Level25 _ | .tAcRun0Level26 _ | .tAcRun0Level27 _ | .tAcRun0Level28 _
  | .tAcRun0Level29 _ | .tAcRun0Level30 _ | .tAcRun0Level31 _ | .tAcRun0Level32 _ | .tAcRun0Level33 _
  | .tAcRun0Level34 _ | .tAcRun0Level35 _ | .tAcRun0Level36 _ | .tAcRun0Level37 _ | .tAcRun0Level38 _
  | .tAcRun0Level39 _ | .tAcRun0Level40 _ | .tAcRun1Level8 _ | .tAcRun1Level9 _ | .tAcRun1Level10 _
  | .tAcRun1Level11 _ | .tAcRun1Level12 _ | .tAcRun1Level13 _ | .tAcRun1Level14 _ | .tAcRun1Level15 _
  | .tAcRun1Level16 _ | .tAcRun1Level17 _ | .tAcRun1Level18 _ | .tAcRun6Level3 _ | .tAcRun11Level2 _
  | .tAcRun12Level2 _ | .tAcRun13Level2 _ | .tAcRun14Level2 _ | .tAcRun15Level2 _ | .tAcRun16Level2 _
  | .tAcRun27Level1 _ | .tAcRun28Level1 _ | .tAcRun29Level1 _ | .tAcRun30Level1 _ | .tAcRun31Level1 _
  | .tAcfRun0Level1First _ | .tAcnEndOfBlock | .tAcnRun0Level1Next _ | .tAcEscapeLongPos _ _
  | .tAcEscapeLongNeg _ _ | .dcDiffSize1 _ | .dcDiffSize2 _ | .dcDiffSize3 _ | .dcDiffSize4 _
  | .dcDiffSize5 _ | .dcDiffSize6 _ | .dcDiffSize7 _ | .dcDiffSize8 _ | .mvResidualRSize1 _
  | .mvResidualRSize2 _ | .mvResidualRSize3 _ | .mvResidualRSize4 _ | .mvResidualRSize5 _
  | .mvResidualRSize6 _ => true

end Sys2Proof
end

