-- ==== Sys2Proof/Decode.lean ====
section
/-! DEFINITION. The eleven code tables, the decoder (command words, codewords, fixed fields), and the encoder, all written
from 30_encoding.md. The tables are the spec's own, recalled from outside its source (R89 to R99; log entry 17). -/

namespace Sys2Proof

/-! ## Bits and fields -/

/-- The `len`-bit string of `n`, most significant bit first (00_scope.md R10). -/
def code : Nat → Nat → Bits
  | 0, _ => []
  | len + 1, n => n.testBit len :: code len n

/-- The unsigned number of a bit string, its first bit the most significant (00_scope.md R10). -/
def bitsToNat (b : Bits) : Nat :=
  b.foldl (fun acc x => 2 * acc + x.toNat) 0

/-- The bits of one source byte under a setting of `BIT_ORDER` (00_scope.md R7). -/
def bitsOfByte (order : Config.BitOrder) (b : Byte) : Bits :=
  match order with
  | .msbFirst => code 8 b.toNat
  | .lsbFirst => (code 8 b.toNat).reverse

/-- The bits of source bytes: `BS[8k + j]` is bit `7 - j` of byte `k` (00_scope.md R10, 20_memory.md R57). -/
def bitsOfBytes (bytes : List Byte) : Bits :=
  bytes.flatMap (bitsOfByte Config.bitOrder)

/-- `sext_n` of an `n`-bit number (00_scope.md R11). -/
def sextN (n v : Nat) : Int :=
  if v < 2 ^ (n - 1) then (v : Int) else (v : Int) - 2 ^ n

/-- `cmd[31:24]` (30_encoding.md R81). -/
def opcodeOf (w : Word) : BitVec 8 := w.extractLsb' 24 8

/-! ## The code tables (30_encoding.md R89 to R99) -/

/-- What a table row stands for: a codeword of its own, or the 6 bits `0000 01` that open an AC escape, whose three
forms are three rows of the opcode table (R99, R100). -/
inductive Entry where
  | row (i : Instr)
  | escape
deriving DecidableEq, Repr

/-- `T_MBA` (R89). -/
def tMba : List (Bits × Instr) :=
  [(code 1 0b1, Instr.tMbaIncr1),
   (code 3 0b011, Instr.tMbaIncr2),
   (code 3 0b010, Instr.tMbaIncr3),
   (code 4 0b0011, Instr.tMbaIncr4),
   (code 4 0b0010, Instr.tMbaIncr5),
   (code 5 0b00011, Instr.tMbaIncr6),
   (code 5 0b00010, Instr.tMbaIncr7),
   (code 7 0b0000111, Instr.tMbaIncr8),
   (code 7 0b0000110, Instr.tMbaIncr9),
   (code 8 0b00001011, Instr.tMbaIncr10),
   (code 8 0b00001010, Instr.tMbaIncr11),
   (code 8 0b00001001, Instr.tMbaIncr12),
   (code 8 0b00001000, Instr.tMbaIncr13),
   (code 8 0b00000111, Instr.tMbaIncr14),
   (code 8 0b00000110, Instr.tMbaIncr15),
   (code 10 0b0000010111, Instr.tMbaIncr16),
   (code 10 0b0000010110, Instr.tMbaIncr17),
   (code 10 0b0000010101, Instr.tMbaIncr18),
   (code 10 0b0000010100, Instr.tMbaIncr19),
   (code 10 0b0000010011, Instr.tMbaIncr20),
   (code 10 0b0000010010, Instr.tMbaIncr21),
   (code 11 0b00000100011, Instr.tMbaIncr22),
   (code 11 0b00000100010, Instr.tMbaIncr23),
   (code 11 0b00000100001, Instr.tMbaIncr24),
   (code 11 0b00000100000, Instr.tMbaIncr25),
   (code 11 0b00000011111, Instr.tMbaIncr26),
   (code 11 0b00000011110, Instr.tMbaIncr27),
   (code 11 0b00000011101, Instr.tMbaIncr28),
   (code 11 0b00000011100, Instr.tMbaIncr29),
   (code 11 0b00000011011, Instr.tMbaIncr30),
   (code 11 0b00000011010, Instr.tMbaIncr31),
   (code 11 0b00000011001, Instr.tMbaIncr32),
   (code 11 0b00000011000, Instr.tMbaIncr33)] ++
  [(code 11 0b00000001111, Instr.tMbaStuffing),
   (code 11 0b00000001000, Instr.tMbaEscape)]

/-- `T_MBT_I` (R90). -/
def tMbtI : List (Bits × Instr) :=
  [(code 1 0b1, Instr.tMbtIQ0f0b0p0i1),
   (code 2 0b01, Instr.tMbtIQ1f0b0p0i1)]

/-- `T_MBT_P` (R91). -/
def tMbtP : List (Bits × Instr) :=
  [(code 1 0b1, Instr.tMbtPQ0f1b0p1i0),
   (code 2 0b01, Instr.tMbtPQ0f0b0p1i0),
   (code 3 0b001, Instr.tMbtPQ0f1b0p0i0),
   (code 5 0b00011, Instr.tMbtPQ0f0b0p0i1),
   (code 5 0b00010, Instr.tMbtPQ1f1b0p1i0),
   (code 5 0b00001, Instr.tMbtPQ1f0b0p1i0),
   (code 6 0b000001, Instr.tMbtPQ1f0b0p0i1)]

/-- `T_MBT_B` (R92). -/
def tMbtB : List (Bits × Instr) :=
  [(code 2 0b10, Instr.tMbtBQ0f1b1p0i0),
   (code 2 0b11, Instr.tMbtBQ0f1b1p1i0),
   (code 3 0b010, Instr.tMbtBQ0f0b1p0i0),
   (code 3 0b011, Instr.tMbtBQ0f0b1p1i0),
   (code 4 0b0010, Instr.tMbtBQ0f1b0p0i0),
   (code 4 0b0011, Instr.tMbtBQ0f1b0p1i0),
   (code 5 0b00011, Instr.tMbtBQ0f0b0p0i1),
   (code 5 0b00010, Instr.tMbtBQ1f1b1p1i0),
   (code 6 0b000011, Instr.tMbtBQ1f1b0p1i0),
   (code 6 0b000010, Instr.tMbtBQ1f0b1p1i0),
   (code 6 0b000001, Instr.tMbtBQ1f0b0p0i1)]

/-- `T_MBT_D` (R93). -/
def tMbtD : List (Bits × Instr) :=
  [(code 1 0b1, Instr.tMbtDQ0f0b0p0i1)]

/-- `T_MV` (R94). -/
def tMv : List (Bits × Instr) :=
  [(code 11 0b00000011001, Instr.tMvCodeM16),
   (code 11 0b00000011011, Instr.tMvCodeM15),
   (code 11 0b00000011101, Instr.tMvCodeM14),
   (code 11 0b00000011111, Instr.tMvCodeM13),
   (code 11 0b00000100001, Instr.tMvCodeM12),
   (code 11 0b00000100011, Instr.tMvCodeM11),
   (code 10 0b0000010011, Instr.tMvCodeM10),
   (code 10 0b0000010101, Instr.tMvCodeM9),
   (code 10 0b0000010111, Instr.tMvCodeM8),
   (code 8 0b00000111, Instr.tMvCodeM7),
   (code 8 0b00001001, Instr.tMvCodeM6),
   (code 8 0b00001011, Instr.tMvCodeM5),
   (code 7 0b0000111, Instr.tMvCodeM4),
   (code 5 0b00011, Instr.tMvCodeM3),
   (code 4 0b0011, Instr.tMvCodeM2),
   (code 3 0b011, Instr.tMvCodeM1),
   (code 1 0b1, Instr.tMvCode0),
   (code 3 0b010, Instr.tMvCode1),
   (code 4 0b0010, Instr.tMvCode2),
   (code 5 0b00010, Instr.tMvCode3),
   (code 7 0b0000110, Instr.tMvCode4),
   (code 8 0b00001010, Instr.tMvCode5),
   (code 8 0b00001000, Instr.tMvCode6),
   (code 8 0b00000110, Instr.tMvCode7),
   (code 10 0b0000010110, Instr.tMvCode8),
   (code 10 0b0000010100, Instr.tMvCode9),
   (code 10 0b0000010010, Instr.tMvCode10),
   (code 11 0b00000100010, Instr.tMvCode11),
   (code 11 0b00000100000, Instr.tMvCode12),
   (code 11 0b00000011110, Instr.tMvCode13),
   (code 11 0b00000011100, Instr.tMvCode14),
   (code 11 0b00000011010, Instr.tMvCode15),
   (code 11 0b00000011000, Instr.tMvCode16)]

/-- `T_CBP` (R95). -/
def tCbp : List (Bits × Instr) :=
  [(code 3 0b111, Instr.tCbpCbp60),
   (code 4 0b1101, Instr.tCbpCbp4),
   (code 4 0b1100, Instr.tCbpCbp8),
   (code 4 0b1011, Instr.tCbpCbp16),
   (code 4 0b1010, Instr.tCbpCbp32),
   (code 5 0b10011, Instr.tCbpCbp12),
   (code 5 0b10010, Instr.tCbpCbp48),
   (code 5 0b10001, Instr.tCbpCbp20),
   (code 5 0b10000, Instr.tCbpCbp40),
   (code 5 0b01111, Instr.tCbpCbp28),
   (code 5 0b01110, Instr.tCbpCbp44),
   (code 5 0b01101, Instr.tCbpCbp52),
   (code 5 0b01100, Instr.tCbpCbp56),
   (code 5 0b01011, Instr.tCbpCbp1),
   (code 5 0b01010, Instr.tCbpCbp61),
   (code 5 0b01001, Instr.tCbpCbp2),
   (code 5 0b01000, Instr.tCbpCbp62),
   (code 6 0b001111, Instr.tCbpCbp24),
   (code 6 0b001110, Instr.tCbpCbp36),
   (code 6 0b001101, Instr.tCbpCbp3),
   (code 6 0b001100, Instr.tCbpCbp63),
   (code 7 0b0010111, Instr.tCbpCbp5),
   (code 7 0b0010110, Instr.tCbpCbp9),
   (code 7 0b0010101, Instr.tCbpCbp17),
   (code 7 0b0010100, Instr.tCbpCbp33),
   (code 7 0b0010011, Instr.tCbpCbp6),
   (code 7 0b0010010, Instr.tCbpCbp10),
   (code 7 0b0010001, Instr.tCbpCbp18),
   (code 7 0b0010000, Instr.tCbpCbp34),
   (code 8 0b00011111, Instr.tCbpCbp7),
   (code 8 0b00011110, Instr.tCbpCbp11),
   (code 8 0b00011101, Instr.tCbpCbp19),
   (code 8 0b00011100, Instr.tCbpCbp35)] ++
  [(code 8 0b00011011, Instr.tCbpCbp13),
   (code 8 0b00011010, Instr.tCbpCbp49),
   (code 8 0b00011001, Instr.tCbpCbp21),
   (code 8 0b00011000, Instr.tCbpCbp41),
   (code 8 0b00010111, Instr.tCbpCbp14),
   (code 8 0b00010110, Instr.tCbpCbp50),
   (code 8 0b00010101, Instr.tCbpCbp22),
   (code 8 0b00010100, Instr.tCbpCbp42),
   (code 8 0b00010011, Instr.tCbpCbp15),
   (code 8 0b00010010, Instr.tCbpCbp51),
   (code 8 0b00010001, Instr.tCbpCbp23),
   (code 8 0b00010000, Instr.tCbpCbp43),
   (code 8 0b00001111, Instr.tCbpCbp25),
   (code 8 0b00001110, Instr.tCbpCbp37),
   (code 8 0b00001101, Instr.tCbpCbp26),
   (code 8 0b00001100, Instr.tCbpCbp38),
   (code 8 0b00001011, Instr.tCbpCbp29),
   (code 8 0b00001010, Instr.tCbpCbp45),
   (code 8 0b00001001, Instr.tCbpCbp53),
   (code 8 0b00001000, Instr.tCbpCbp57),
   (code 8 0b00000111, Instr.tCbpCbp30),
   (code 8 0b00000110, Instr.tCbpCbp46),
   (code 8 0b00000101, Instr.tCbpCbp54),
   (code 8 0b00000100, Instr.tCbpCbp58),
   (code 9 0b000000111, Instr.tCbpCbp31),
   (code 9 0b000000110, Instr.tCbpCbp47),
   (code 9 0b000000101, Instr.tCbpCbp55),
   (code 9 0b000000100, Instr.tCbpCbp59),
   (code 9 0b000000011, Instr.tCbpCbp27),
   (code 9 0b000000010, Instr.tCbpCbp39)]

/-- `T_DCL` (R96). -/
def tDcl : List (Bits × Instr) :=
  [(code 3 0b100, Instr.tDclSize0),
   (code 2 0b00, Instr.tDclSize1),
   (code 2 0b01, Instr.tDclSize2),
   (code 3 0b101, Instr.tDclSize3),
   (code 3 0b110, Instr.tDclSize4),
   (code 4 0b1110, Instr.tDclSize5),
   (code 5 0b11110, Instr.tDclSize6),
   (code 6 0b111110, Instr.tDclSize7),
   (code 7 0b1111110, Instr.tDclSize8)]

/-- `T_DCC` (R97). -/
def tDcc : List (Bits × Instr) :=
  [(code 2 0b00, Instr.tDccSize0),
   (code 2 0b01, Instr.tDccSize1),
   (code 2 0b10, Instr.tDccSize2),
   (code 3 0b110, Instr.tDccSize3),
   (code 4 0b1110, Instr.tDccSize4),
   (code 5 0b11110, Instr.tDccSize5),
   (code 6 0b111110, Instr.tDccSize6),
   (code 7 0b1111110, Instr.tDccSize7),
   (code 8 0b11111110, Instr.tDccSize8)]

/-- The 110 rows of `T_AC` that both AC tables take over (R98, R99), each code without its sign bit. -/
def tAc : List (Bits × (Bool → Instr)) :=
  [(code 3 0b011, Instr.tAcRun1Level1),
   (code 4 0b0100, Instr.tAcRun0Level2),
   (code 4 0b0101, Instr.tAcRun2Level1),
   (code 5 0b00101, Instr.tAcRun0Level3),
   (code 5 0b00111, Instr.tAcRun3Level1),
   (code 5 0b00110, Instr.tAcRun4Level1),
   (code 6 0b000110, Instr.tAcRun1Level2),
   (code 6 0b000111, Instr.tAcRun5Level1),
   (code 6 0b000101, Instr.tAcRun6Level1),
   (code 6 0b000100, Instr.tAcRun7Level1),
   (code 7 0b0000110, Instr.tAcRun0Level4),
   (code 7 0b0000100, Instr.tAcRun2Level2),
   (code 7 0b0000111, Instr.tAcRun8Level1),
   (code 7 0b0000101, Instr.tAcRun9Level1),
   (code 8 0b00100110, Instr.tAcRun0Level5),
   (code 8 0b00100001, Instr.tAcRun0Level6),
   (code 8 0b00100101, Instr.tAcRun1Level3),
   (code 8 0b00100100, Instr.tAcRun3Level2),
   (code 8 0b00100111, Instr.tAcRun10Level1),
   (code 8 0b00100011, Instr.tAcRun11Level1),
   (code 8 0b00100010, Instr.tAcRun12Level1),
   (code 8 0b00100000, Instr.tAcRun13Level1),
   (code 10 0b0000001010, Instr.tAcRun0Level7),
   (code 10 0b0000001100, Instr.tAcRun1Level4),
   (code 10 0b0000001011, Instr.tAcRun2Level3),
   (code 10 0b0000001111, Instr.tAcRun4Level2),
   (code 10 0b0000001001, Instr.tAcRun5Level2),
   (code 10 0b0000001110, Instr.tAcRun14Level1),
   (code 10 0b0000001101, Instr.tAcRun15Level1),
   (code 10 0b0000001000, Instr.tAcRun16Level1),
   (code 12 0b000000011101, Instr.tAcRun0Level8),
   (code 12 0b000000011000, Instr.tAcRun0Level9),
   (code 12 0b000000010011, Instr.tAcRun0Level10),
   (code 12 0b000000010000, Instr.tAcRun0Level11),
   (code 12 0b000000011011, Instr.tAcRun1Level5),
   (code 12 0b000000010100, Instr.tAcRun2Level4),
   (code 12 0b000000011100, Instr.tAcRun3Level3)] ++
  [(code 12 0b000000010010, Instr.tAcRun4Level3),
   (code 12 0b000000011110, Instr.tAcRun6Level2),
   (code 12 0b000000010101, Instr.tAcRun7Level2),
   (code 12 0b000000010001, Instr.tAcRun8Level2),
   (code 12 0b000000011111, Instr.tAcRun17Level1),
   (code 12 0b000000011010, Instr.tAcRun18Level1),
   (code 12 0b000000011001, Instr.tAcRun19Level1),
   (code 12 0b000000010111, Instr.tAcRun20Level1),
   (code 12 0b000000010110, Instr.tAcRun21Level1),
   (code 13 0b0000000011010, Instr.tAcRun0Level12),
   (code 13 0b0000000011001, Instr.tAcRun0Level13),
   (code 13 0b0000000011000, Instr.tAcRun0Level14),
   (code 13 0b0000000010111, Instr.tAcRun0Level15),
   (code 13 0b0000000010110, Instr.tAcRun1Level6),
   (code 13 0b0000000010101, Instr.tAcRun1Level7),
   (code 13 0b0000000010100, Instr.tAcRun2Level5),
   (code 13 0b0000000010011, Instr.tAcRun3Level4),
   (code 13 0b0000000010010, Instr.tAcRun5Level3),
   (code 13 0b0000000010001, Instr.tAcRun9Level2),
   (code 13 0b0000000010000, Instr.tAcRun10Level2),
   (code 13 0b0000000011111, Instr.tAcRun22Level1),
   (code 13 0b0000000011110, Instr.tAcRun23Level1),
   (code 13 0b0000000011101, Instr.tAcRun24Level1),
   (code 13 0b0000000011100, Instr.tAcRun25Level1),
   (code 13 0b0000000011011, Instr.tAcRun26Level1),
   (code 14 0b00000000011111, Instr.tAcRun0Level16),
   (code 14 0b00000000011110, Instr.tAcRun0Level17),
   (code 14 0b00000000011101, Instr.tAcRun0Level18),
   (code 14 0b00000000011100, Instr.tAcRun0Level19),
   (code 14 0b00000000011011, Instr.tAcRun0Level20),
   (code 14 0b00000000011010, Instr.tAcRun0Level21),
   (code 14 0b00000000011001, Instr.tAcRun0Level22),
   (code 14 0b00000000011000, Instr.tAcRun0Level23),
   (code 14 0b00000000010111, Instr.tAcRun0Level24),
   (code 14 0b00000000010110, Instr.tAcRun0Level25),
   (code 14 0b00000000010101, Instr.tAcRun0Level26),
   (code 14 0b00000000010100, Instr.tAcRun0Level27)] ++
  [(code 14 0b00000000010011, Instr.tAcRun0Level28),
   (code 14 0b00000000010010, Instr.tAcRun0Level29),
   (code 14 0b00000000010001, Instr.tAcRun0Level30),
   (code 14 0b00000000010000, Instr.tAcRun0Level31),
   (code 15 0b000000000011000, Instr.tAcRun0Level32),
   (code 15 0b000000000010111, Instr.tAcRun0Level33),
   (code 15 0b000000000010110, Instr.tAcRun0Level34),
   (code 15 0b000000000010101, Instr.tAcRun0Level35),
   (code 15 0b000000000010100, Instr.tAcRun0Level36),
   (code 15 0b000000000010011, Instr.tAcRun0Level37),
   (code 15 0b000000000010010, Instr.tAcRun0Level38),
   (code 15 0b000000000010001, Instr.tAcRun0Level39),
   (code 15 0b000000000010000, Instr.tAcRun0Level40),
   (code 15 0b000000000011111, Instr.tAcRun1Level8),
   (code 15 0b000000000011110, Instr.tAcRun1Level9),
   (code 15 0b000000000011101, Instr.tAcRun1Level10),
   (code 15 0b000000000011100, Instr.tAcRun1Level11),
   (code 15 0b000000000011011, Instr.tAcRun1Level12),
   (code 15 0b000000000011010, Instr.tAcRun1Level13),
   (code 15 0b000000000011001, Instr.tAcRun1Level14),
   (code 16 0b0000000000010011, Instr.tAcRun1Level15),
   (code 16 0b0000000000010010, Instr.tAcRun1Level16),
   (code 16 0b0000000000010001, Instr.tAcRun1Level17),
   (code 16 0b0000000000010000, Instr.tAcRun1Level18),
   (code 16 0b0000000000010100, Instr.tAcRun6Level3),
   (code 16 0b0000000000011010, Instr.tAcRun11Level2),
   (code 16 0b0000000000011001, Instr.tAcRun12Level2),
   (code 16 0b0000000000011000, Instr.tAcRun13Level2),
   (code 16 0b0000000000010111, Instr.tAcRun14Level2),
   (code 16 0b0000000000010110, Instr.tAcRun15Level2),
   (code 16 0b0000000000010101, Instr.tAcRun16Level2),
   (code 16 0b0000000000011111, Instr.tAcRun27Level1),
   (code 16 0b0000000000011110, Instr.tAcRun28Level1),
   (code 16 0b0000000000011101, Instr.tAcRun29Level1),
   (code 16 0b0000000000011100, Instr.tAcRun30Level1),
   (code 16 0b0000000000011011, Instr.tAcRun31Level1)]

/-- The two signed rows a row of `T_AC` gives: sign bit 0 for a positive level, 1 for a negative one (R99). -/
def signedRows (rows : List (Bits × (Bool → Instr))) : List (Bits × Entry) :=
  rows.flatMap fun r => [(r.1 ++ [false], .row (r.2 false)), (r.1 ++ [true], .row (r.2 true))]

/-- `T_ACF`: 223 rows (R99). -/
def tAcf : List (Bits × Entry) :=
  signedRows [(code 1 0b1, .tAcfRun0Level1First)] ++ [(code 6 0b000001, .escape)] ++ signedRows tAc

/-- `T_ACN`: 224 rows (R99). -/
def tAcn : List (Bits × Entry) :=
  (code 2 0b10, .row .tAcnEndOfBlock) :: signedRows [(code 2 0b11, .tAcnRun0Level1Next)] ++
    [(code 6 0b000001, .escape)] ++ signedRows tAc

def plainRows (rows : List (Bits × Instr)) : List (Bits × Entry) :=
  rows.map fun r => (r.1, .row r.2)

/-- The rows of a table. -/
def Table.rows : Table → List (Bits × Entry)
  | .mba => plainRows tMba
  | .mbtI => plainRows tMbtI
  | .mbtP => plainRows tMbtP
  | .mbtB => plainRows tMbtB
  | .mbtD => plainRows tMbtD
  | .mv => plainRows tMv
  | .cbp => plainRows tCbp
  | .dcl => plainRows tDcl
  | .dcc => plainRows tDcc
  | .acf => tAcf
  | .acn => tAcn

/-- The peek width of a table (00_scope.md R7). -/
def Table.width : Table → Nat
  | .mba => Config.wMba
  | .mbtI => Config.wMbtI
  | .mbtP => Config.wMbtP
  | .mbtB => Config.wMbtB
  | .mbtD => Config.wMbtD
  | .mv => Config.wMv
  | .cbp => Config.wCbp
  | .dcl => Config.wDcl
  | .dcc => Config.wDcc
  | .acf => Config.wAc
  | .acn => Config.wAc

/-- The row of `t` whose code is a leading part of the window (R88); at most one is, since the tables are prefix-free
(R86). -/
def lookup (t : Table) (window : Bits) : Option (Bits × Entry) :=
  t.rows.find? fun r => r.1.isPrefixOf window

/-! ## The decoder -/

/-- Why bits are no instruction. -/
inductive Reject where
  /-- an opcode not in the map of R82 (R84 (a)) -/
  | reservedOpcode
  /-- opcode 0x02 with `cmd[2:0]` in 0, 5, 6, 7 (R84 (b)) -/
  | reservedSelector
  /-- no row of the table begins the bits (R103) -/
  | invalidCode
  /-- fewer bits than the item takes -/
  | truncated
  /-- a field of a width the stream does not have (R101, R102) -/
  | noSuchField
deriving DecidableEq, Repr

/-- What decoding gives: an instruction and the bits after it, or why there is none. -/
inductive Decoded where
  | ok (i : Instr) (rest : Bits)
  | error (r : Reject)
deriving DecidableEq, Repr

/-- The command word of R81, R82, R107. DESIGN CHOICE (log entry 27): the spec conflicts with itself on how many commands the
VLD has. 00_scope.md R2 counts ten decode operations and thirteen commands; the opcode map R82, the opcode table and the list of
R4 (a) have nine and twelve. The model follows the map: no thirteenth command exists here. Unsafe. -/
def decodeCommand (w : Word) : Except Reject Instr :=
  match (opcodeOf w).toNat with
  | 0x00 => .ok .nop
  | 0x01 => .ok .vldMba
  | 0x02 =>
    match (w.extractLsb' 0 3).toNat with
    | 1 => .ok .vldMbtI
    | 2 => .ok .vldMbtP
    | 3 => .ok .vldMbtB
    | 4 => .ok .vldMbtD
    | _ => .error .reservedSelector
  | 0x03 => .ok .vldMv
  | 0x04 => .ok .vldCbp
  | 0x05 => .ok .vldDcl
  | 0x06 => .ok .vldDcc
  | 0x07 => .ok (.vldDcd (w.extractLsb' 0 4))
  | 0x08 => .ok .vldAcf
  | 0x09 => .ok .vldAcn
  | 0x10 => .ok (.mvrSetupF (w.getLsbD 3) (w.extractLsb' 0 Config.fCodeW))
  | 0x11 => .ok (.mvrSetupB (w.getLsbD 3) (w.extractLsb' 0 Config.fCodeW))
  | 0x12 => .ok .mvrResetF
  | 0x13 => .ok .mvrResetB
  | 0x14 => .ok (.mvrCalcF (w.extractLsb' 18 6) (w.extractLsb' 12 6) (w.extractLsb' 6 6) (w.extractLsb' 0 6))
  | 0x15 => .ok (.mvrCalcB (w.extractLsb' 18 6) (w.extractLsb' 12 6) (w.extractLsb' 6 6) (w.extractLsb' 0 6))
  | 0x20 => .ok (.cbWr (w.extractLsb' 16 6) (w.extractLsb' 0 16))
  | 0x21 => .ok (.cbRd (w.extractLsb' 16 6))
  | 0x22 => .ok .idctBlk
  | 0x3F => .ok .status
  | _ => .error .reservedOpcode

/-- The escape body after `0000 01`: 6 bits of run, 8 of level, and 8 more after 0x00 or 0x80 (R100). -/
def decodeEscape (b : Bits) : Decoded :=
  let run := BitVec.ofNat 6 (bitsToNat (b.take 6))
  let lv := BitVec.ofNat 8 (bitsToNat ((b.drop 6).take 8))
  let m := BitVec.ofNat 8 (bitsToNat ((b.drop 14).take 8))
  if b.length < 14 then .error .truncated
  else if lv = 0x00#8 then
    if b.length < 22 then .error .truncated else .ok (.tAcEscapeLongPos run m) (b.drop 22)
  else if lv = 0x80#8 then
    if b.length < 22 then .error .truncated else .ok (.tAcEscapeLongNeg run m) (b.drop 22)
  else .ok (.tAcEscapeShort run lv) (b.drop 14)

/-- A codeword of table `t` at the head of the bits. -/
def decodeVlc (t : Table) (b : Bits) : Decoded :=
  match lookup t b with
  | none => .error .invalidCode
  | some (c, .row i) => .ok i (b.drop c.length)
  | some (c, .escape) => decodeEscape (b.drop c.length)

/-- The DC differential field of `size` bits holding `raw` (R101). -/
def dcDiffField (size raw : Nat) : Option Instr :=
  match size with
  | 1 => some (.dcDiffSize1 (BitVec.ofNat 1 raw))
  | 2 => some (.dcDiffSize2 (BitVec.ofNat 2 raw))
  | 3 => some (.dcDiffSize3 (BitVec.ofNat 3 raw))
  | 4 => some (.dcDiffSize4 (BitVec.ofNat 4 raw))
  | 5 => some (.dcDiffSize5 (BitVec.ofNat 5 raw))
  | 6 => some (.dcDiffSize6 (BitVec.ofNat 6 raw))
  | 7 => some (.dcDiffSize7 (BitVec.ofNat 7 raw))
  | 8 => some (.dcDiffSize8 (BitVec.ofNat 8 raw))
  | _ => none

/-- The motion residual field of `rSize` bits holding `r` (R102). -/
def residualField (rSize r : Nat) : Option Instr :=
  match rSize with
  | 1 => some (.mvResidualRSize1 (BitVec.ofNat 1 r))
  | 2 => some (.mvResidualRSize2 (BitVec.ofNat 2 r))
  | 3 => some (.mvResidualRSize3 (BitVec.ofNat 3 r))
  | 4 => some (.mvResidualRSize4 (BitVec.ofNat 4 r))
  | 5 => some (.mvResidualRSize5 (BitVec.ofNat 5 r))
  | 6 => some (.mvResidualRSize6 (BitVec.ofNat 6 r))
  | _ => none

def decodeField (field : Nat → Nat → Option Instr) (n : Nat) (b : Bits) : Decoded :=
  match field n (bitsToNat (b.take n)) with
  | none => .error .noSuchField
  | some i => if b.length < n then .error .truncated else .ok i (b.drop n)

/-- The decoder: total on any bits, in the context that says what they are (R80). -/
def decode (c : Ctx) (b : Bits) : Decoded :=
  match c with
  | .command =>
    if b.length < 32 then .error .truncated
    else
      match decodeCommand (BitVec.ofNat 32 (bitsToNat (b.take 32))) with
      | .ok i => .ok i (b.drop 32)
      | .error r => .error r
  | .vlc t => decodeVlc t b
  | .dcDiff n => decodeField dcDiffField n b
  | .residual n => decodeField residualField n b

/-! ## The encoder -/

/-- A command word: the opcode above the 24 operand bits (R81). -/
def command32 (op : BitVec 8) (operands : BitVec 24) : Bits :=
  code 32 (op ++ operands).toNat

/-- The operand bits of `MVR.SETUP.d` (R82). -/
def setupOperands (fullPel : Bool) (fCode : BitVec Config.fCodeW) : BitVec 24 :=
  0#20 ++ BitVec.ofBool fullPel ++ fCode

/-- The operand bits of `MVR.CALC.d` (R82). -/
def calcOperands (codeH rH codeV rV : BitVec 6) : BitVec 24 :=
  codeH ++ rH ++ codeV ++ rV

/-- The bits of an instruction in transmission order: the 32 bits of a command word (bit 31 first, reserved bits 0), or
the bits of a codeword or field as they stand in the stream. -/
def encode (i : Instr) : Bits :=
  match i with
  | .nop => command32 0x00 0#24
  | .vldMba => command32 0x01 0#24
  | .vldMbtI => command32 0x02 1#24
  | .vldMbtP => command32 0x02 2#24
  | .vldMbtB => command32 0x02 3#24
  | .vldMbtD => command32 0x02 4#24
  | .vldMv => command32 0x03 0#24
  | .vldCbp => command32 0x04 0#24
  | .vldDcl => command32 0x05 0#24
  | .vldDcc => command32 0x06 0#24
  | .vldDcd size => command32 0x07 (0#20 ++ size)
  | .vldAcf => command32 0x08 0#24
  | .vldAcn => command32 0x09 0#24
  | .mvrSetupF fullPel fCode => command32 0x10 (setupOperands fullPel fCode)
  | .mvrSetupB fullPel fCode => command32 0x11 (setupOperands fullPel fCode)
  | .mvrResetF => command32 0x12 0#24
  | .mvrResetB => command32 0x13 0#24
  | .mvrCalcF codeH rH codeV rV => command32 0x14 (calcOperands codeH rH codeV rV)
  | .mvrCalcB codeH rH codeV rV => command32 0x15 (calcOperands codeH rH codeV rV)
  | .cbWr idx value => command32 0x20 (0#2 ++ idx ++ value)
  | .cbRd idx => command32 0x21 (0#2 ++ idx ++ 0#16)
  | .idctBlk => command32 0x22 0#24
  | .status => command32 0x3F 0#24
  | .tAcRun1Level1 s => code 3 0b011 ++ [s]
  | .tAcRun0Level2 s => code 4 0b0100 ++ [s]
  | .tAcRun2Level1 s => code 4 0b0101 ++ [s]
  | .tAcRun0Level3 s => code 5 0b00101 ++ [s]
  | .tAcRun3Level1 s => code 5 0b00111 ++ [s]
  | .tAcRun4Level1 s => code 5 0b00110 ++ [s]
  | .tAcRun1Level2 s => code 6 0b000110 ++ [s]
  | .tAcRun5Level1 s => code 6 0b000111 ++ [s]
  | .tAcRun6Level1 s => code 6 0b000101 ++ [s]
  | .tAcRun7Level1 s => code 6 0b000100 ++ [s]
  | .tAcRun0Level4 s => code 7 0b0000110 ++ [s]
  | .tAcRun2Level2 s => code 7 0b0000100 ++ [s]
  | .tAcRun8Level1 s => code 7 0b0000111 ++ [s]
  | .tAcRun9Level1 s => code 7 0b0000101 ++ [s]
  | .tAcRun0Level5 s => code 8 0b00100110 ++ [s]
  | .tAcRun0Level6 s => code 8 0b00100001 ++ [s]
  | .tAcRun1Level3 s => code 8 0b00100101 ++ [s]
  | .tAcRun3Level2 s => code 8 0b00100100 ++ [s]
  | .tAcRun10Level1 s => code 8 0b00100111 ++ [s]
  | .tAcRun11Level1 s => code 8 0b00100011 ++ [s]
  | .tAcRun12Level1 s => code 8 0b00100010 ++ [s]
  | .tAcRun13Level1 s => code 8 0b00100000 ++ [s]
  | .tAcRun0Level7 s => code 10 0b0000001010 ++ [s]
  | .tAcRun1Level4 s => code 10 0b0000001100 ++ [s]
  | .tAcRun2Level3 s => code 10 0b0000001011 ++ [s]
  | .tAcRun4Level2 s => code 10 0b0000001111 ++ [s]
  | .tAcRun5Level2 s => code 10 0b0000001001 ++ [s]
  | .tAcRun14Level1 s => code 10 0b0000001110 ++ [s]
  | .tAcRun15Level1 s => code 10 0b0000001101 ++ [s]
  | .tAcRun16Level1 s => code 10 0b0000001000 ++ [s]
  | .tAcRun0Level8 s => code 12 0b000000011101 ++ [s]
  | .tAcRun0Level9 s => code 12 0b000000011000 ++ [s]
  | .tAcRun0Level10 s => code 12 0b000000010011 ++ [s]
  | .tAcRun0Level11 s => code 12 0b000000010000 ++ [s]
  | .tAcRun1Level5 s => code 12 0b000000011011 ++ [s]
  | .tAcRun2Level4 s => code 12 0b000000010100 ++ [s]
  | .tAcRun3Level3 s => code 12 0b000000011100 ++ [s]
  | .tAcRun4Level3 s => code 12 0b000000010010 ++ [s]
  | .tAcRun6Level2 s => code 12 0b000000011110 ++ [s]
  | .tAcRun7Level2 s => code 12 0b000000010101 ++ [s]
  | .tAcRun8Level2 s => code 12 0b000000010001 ++ [s]
  | .tAcRun17Level1 s => code 12 0b000000011111 ++ [s]
  | .tAcRun18Level1 s => code 12 0b000000011010 ++ [s]
  | .tAcRun19Level1 s => code 12 0b000000011001 ++ [s]
  | .tAcRun20Level1 s => code 12 0b000000010111 ++ [s]
  | .tAcRun21Level1 s => code 12 0b000000010110 ++ [s]
  | .tAcRun0Level12 s => code 13 0b0000000011010 ++ [s]
  | .tAcRun0Level13 s => code 13 0b0000000011001 ++ [s]
  | .tAcRun0Level14 s => code 13 0b0000000011000 ++ [s]
  | .tAcRun0Level15 s => code 13 0b0000000010111 ++ [s]
  | .tAcRun1Level6 s => code 13 0b0000000010110 ++ [s]
  | .tAcRun1Level7 s => code 13 0b0000000010101 ++ [s]
  | .tAcRun2Level5 s => code 13 0b0000000010100 ++ [s]
  | .tAcRun3Level4 s => code 13 0b0000000010011 ++ [s]
  | .tAcRun5Level3 s => code 13 0b0000000010010 ++ [s]
  | .tAcRun9Level2 s => code 13 0b0000000010001 ++ [s]
  | .tAcRun10Level2 s => code 13 0b0000000010000 ++ [s]
  | .tAcRun22Level1 s => code 13 0b0000000011111 ++ [s]
  | .tAcRun23Level1 s => code 13 0b0000000011110 ++ [s]
  | .tAcRun24Level1 s => code 13 0b0000000011101 ++ [s]
  | .tAcRun25Level1 s => code 13 0b0000000011100 ++ [s]
  | .tAcRun26Level1 s => code 13 0b0000000011011 ++ [s]
  | .tAcRun0Level16 s => code 14 0b00000000011111 ++ [s]
  | .tAcRun0Level17 s => code 14 0b00000000011110 ++ [s]
  | .tAcRun0Level18 s => code 14 0b00000000011101 ++ [s]
  | .tAcRun0Level19 s => code 14 0b00000000011100 ++ [s]
  | .tAcRun0Level20 s => code 14 0b00000000011011 ++ [s]
  | .tAcRun0Level21 s => code 14 0b00000000011010 ++ [s]
  | .tAcRun0Level22 s => code 14 0b00000000011001 ++ [s]
  | .tAcRun0Level23 s => code 14 0b00000000011000 ++ [s]
  | .tAcRun0Level24 s => code 14 0b00000000010111 ++ [s]
  | .tAcRun0Level25 s => code 14 0b00000000010110 ++ [s]
  | .tAcRun0Level26 s => code 14 0b00000000010101 ++ [s]
  | .tAcRun0Level27 s => code 14 0b00000000010100 ++ [s]
  | .tAcRun0Level28 s => code 14 0b00000000010011 ++ [s]
  | .tAcRun0Level29 s => code 14 0b00000000010010 ++ [s]
  | .tAcRun0Level30 s => code 14 0b00000000010001 ++ [s]
  | .tAcRun0Level31 s => code 14 0b00000000010000 ++ [s]
  | .tAcRun0Level32 s => code 15 0b000000000011000 ++ [s]
  | .tAcRun0Level33 s => code 15 0b000000000010111 ++ [s]
  | .tAcRun0Level34 s => code 15 0b000000000010110 ++ [s]
  | .tAcRun0Level35 s => code 15 0b000000000010101 ++ [s]
  | .tAcRun0Level36 s => code 15 0b000000000010100 ++ [s]
  | .tAcRun0Level37 s => code 15 0b000000000010011 ++ [s]
  | .tAcRun0Level38 s => code 15 0b000000000010010 ++ [s]
  | .tAcRun0Level39 s => code 15 0b000000000010001 ++ [s]
  | .tAcRun0Level40 s => code 15 0b000000000010000 ++ [s]
  | .tAcRun1Level8 s => code 15 0b000000000011111 ++ [s]
  | .tAcRun1Level9 s => code 15 0b000000000011110 ++ [s]
  | .tAcRun1Level10 s => code 15 0b000000000011101 ++ [s]
  | .tAcRun1Level11 s => code 15 0b000000000011100 ++ [s]
  | .tAcRun1Level12 s => code 15 0b000000000011011 ++ [s]
  | .tAcRun1Level13 s => code 15 0b000000000011010 ++ [s]
  | .tAcRun1Level14 s => code 15 0b000000000011001 ++ [s]
  | .tAcRun1Level15 s => code 16 0b0000000000010011 ++ [s]
  | .tAcRun1Level16 s => code 16 0b0000000000010010 ++ [s]
  | .tAcRun1Level17 s => code 16 0b0000000000010001 ++ [s]
  | .tAcRun1Level18 s => code 16 0b0000000000010000 ++ [s]
  | .tAcRun6Level3 s => code 16 0b0000000000010100 ++ [s]
  | .tAcRun11Level2 s => code 16 0b0000000000011010 ++ [s]
  | .tAcRun12Level2 s => code 16 0b0000000000011001 ++ [s]
  | .tAcRun13Level2 s => code 16 0b0000000000011000 ++ [s]
  | .tAcRun14Level2 s => code 16 0b0000000000010111 ++ [s]
  | .tAcRun15Level2 s => code 16 0b0000000000010110 ++ [s]
  | .tAcRun16Level2 s => code 16 0b0000000000010101 ++ [s]
  | .tAcRun27Level1 s => code 16 0b0000000000011111 ++ [s]
  | .tAcRun28Level1 s => code 16 0b0000000000011110 ++ [s]
  | .tAcRun29Level1 s => code 16 0b0000000000011101 ++ [s]
  | .tAcRun30Level1 s => code 16 0b0000000000011100 ++ [s]
  | .tAcRun31Level1 s => code 16 0b0000000000011011 ++ [s]
  | .tAcfRun0Level1First s => code 1 0b1 ++ [s]
  | .tAcnEndOfBlock => code 2 0b10
  | .tAcnRun0Level1Next s => code 2 0b11 ++ [s]
  | .tAcEscapeShort run lv => code 6 0b000001 ++ code 6 run.toNat ++ code 8 lv.toNat
  | .tAcEscapeLongPos run m => code 6 0b000001 ++ code 6 run.toNat ++ code 8 0x00 ++ code 8 m.toNat
  | .tAcEscapeLongNeg run m => code 6 0b000001 ++ code 6 run.toNat ++ code 8 0x80 ++ code 8 m.toNat
  | .dcDiffSize1 d => code 1 d.toNat
  | .dcDiffSize2 d => code 2 d.toNat
  | .dcDiffSize3 d => code 3 d.toNat
  | .dcDiffSize4 d => code 4 d.toNat
  | .dcDiffSize5 d => code 5 d.toNat
  | .dcDiffSize6 d => code 6 d.toNat
  | .dcDiffSize7 d => code 7 d.toNat
  | .dcDiffSize8 d => code 8 d.toNat
  | .mvResidualRSize1 r => code 1 r.toNat
  | .mvResidualRSize2 r => code 2 r.toNat
  | .mvResidualRSize3 r => code 3 r.toNat
  | .mvResidualRSize4 r => code 4 r.toNat
  | .mvResidualRSize5 r => code 5 r.toNat
  | .mvResidualRSize6 r => code 6 r.toNat
  | .tMbaIncr1 => code 1 0b1
  | .tMbaIncr2 => code 3 0b011
  | .tMbaIncr3 => code 3 0b010
  | .tMbaIncr4 => code 4 0b0011
  | .tMbaIncr5 => code 4 0b0010
  | .tMbaIncr6 => code 5 0b00011
  | .tMbaIncr7 => code 5 0b00010
  | .tMbaIncr8 => code 7 0b0000111
  | .tMbaIncr9 => code 7 0b0000110
  | .tMbaIncr10 => code 8 0b00001011
  | .tMbaIncr11 => code 8 0b00001010
  | .tMbaIncr12 => code 8 0b00001001
  | .tMbaIncr13 => code 8 0b00001000
  | .tMbaIncr14 => code 8 0b00000111
  | .tMbaIncr15 => code 8 0b00000110
  | .tMbaIncr16 => code 10 0b0000010111
  | .tMbaIncr17 => code 10 0b0000010110
  | .tMbaIncr18 => code 10 0b0000010101
  | .tMbaIncr19 => code 10 0b0000010100
  | .tMbaIncr20 => code 10 0b0000010011
  | .tMbaIncr21 => code 10 0b0000010010
  | .tMbaIncr22 => code 11 0b00000100011
  | .tMbaIncr23 => code 11 0b00000100010
  | .tMbaIncr24 => code 11 0b00000100001
  | .tMbaIncr25 => code 11 0b00000100000
  | .tMbaIncr26 => code 11 0b00000011111
  | .tMbaIncr27 => code 11 0b00000011110
  | .tMbaIncr28 => code 11 0b00000011101
  | .tMbaIncr29 => code 11 0b00000011100
  | .tMbaIncr30 => code 11 0b00000011011
  | .tMbaIncr31 => code 11 0b00000011010
  | .tMbaIncr32 => code 11 0b00000011001
  | .tMbaIncr33 => code 11 0b00000011000
  | .tMbaStuffing => code 11 0b00000001111
  | .tMbaEscape => code 11 0b00000001000
  | .tMbtIQ0f0b0p0i1 => code 1 0b1
  | .tMbtIQ1f0b0p0i1 => code 2 0b01
  | .tMbtPQ0f1b0p1i0 => code 1 0b1
  | .tMbtPQ0f0b0p1i0 => code 2 0b01
  | .tMbtPQ0f1b0p0i0 => code 3 0b001
  | .tMbtPQ0f0b0p0i1 => code 5 0b00011
  | .tMbtPQ1f1b0p1i0 => code 5 0b00010
  | .tMbtPQ1f0b0p1i0 => code 5 0b00001
  | .tMbtPQ1f0b0p0i1 => code 6 0b000001
  | .tMbtBQ0f1b1p0i0 => code 2 0b10
  | .tMbtBQ0f1b1p1i0 => code 2 0b11
  | .tMbtBQ0f0b1p0i0 => code 3 0b010
  | .tMbtBQ0f0b1p1i0 => code 3 0b011
  | .tMbtBQ0f1b0p0i0 => code 4 0b0010
  | .tMbtBQ0f1b0p1i0 => code 4 0b0011
  | .tMbtBQ0f0b0p0i1 => code 5 0b00011
  | .tMbtBQ1f1b1p1i0 => code 5 0b00010
  | .tMbtBQ1f1b0p1i0 => code 6 0b000011
  | .tMbtBQ1f0b1p1i0 => code 6 0b000010
  | .tMbtBQ1f0b0p0i1 => code 6 0b000001
  | .tMbtDQ0f0b0p0i1 => code 1 0b1
  | .tMvCode0 => code 1 0b1
  | .tMvCode1 => code 3 0b010
  | .tMvCodeM1 => code 3 0b011
  | .tMvCode2 => code 4 0b0010
  | .tMvCodeM2 => code 4 0b0011
  | .tMvCode3 => code 5 0b00010
  | .tMvCodeM3 => code 5 0b00011
  | .tMvCode4 => code 7 0b0000110
  | .tMvCodeM4 => code 7 0b0000111
  | .tMvCode5 => code 8 0b00001010
  | .tMvCodeM5 => code 8 0b00001011
  | .tMvCode6 => code 8 0b00001000
  | .tMvCodeM6 => code 8 0b00001001
  | .tMvCode7 => code 8 0b00000110
  | .tMvCodeM7 => code 8 0b00000111
  | .tMvCode8 => code 10 0b0000010110
  | .tMvCodeM8 => code 10 0b0000010111
  | .tMvCode9 => code 10 0b0000010100
  | .tMvCodeM9 => code 10 0b0000010101
  | .tMvCode10 => code 10 0b0000010010
  | .tMvCodeM10 => code 10 0b0000010011
  | .tMvCode11 => code 11 0b00000100010
  | .tMvCodeM11 => code 11 0b00000100011
  | .tMvCode12 => code 11 0b00000100000
  | .tMvCodeM12 => code 11 0b00000100001
  | .tMvCode13 => code 11 0b00000011110
  | .tMvCodeM13 => code 11 0b00000011111
  | .tMvCode14 => code 11 0b00000011100
  | .tMvCodeM14 => code 11 0b00000011101
  | .tMvCode15 => code 11 0b00000011010
  | .tMvCodeM15 => code 11 0b00000011011
  | .tMvCode16 => code 11 0b00000011000
  | .tMvCodeM16 => code 11 0b00000011001
  | .tCbpCbp60 => code 3 0b111
  | .tCbpCbp4 => code 4 0b1101
  | .tCbpCbp8 => code 4 0b1100
  | .tCbpCbp16 => code 4 0b1011
  | .tCbpCbp32 => code 4 0b1010
  | .tCbpCbp12 => code 5 0b10011
  | .tCbpCbp48 => code 5 0b10010
  | .tCbpCbp20 => code 5 0b10001
  | .tCbpCbp40 => code 5 0b10000
  | .tCbpCbp28 => code 5 0b01111
  | .tCbpCbp44 => code 5 0b01110
  | .tCbpCbp52 => code 5 0b01101
  | .tCbpCbp56 => code 5 0b01100
  | .tCbpCbp1 => code 5 0b01011
  | .tCbpCbp61 => code 5 0b01010
  | .tCbpCbp2 => code 5 0b01001
  | .tCbpCbp62 => code 5 0b01000
  | .tCbpCbp24 => code 6 0b001111
  | .tCbpCbp36 => code 6 0b001110
  | .tCbpCbp3 => code 6 0b001101
  | .tCbpCbp63 => code 6 0b001100
  | .tCbpCbp5 => code 7 0b0010111
  | .tCbpCbp9 => code 7 0b0010110
  | .tCbpCbp17 => code 7 0b0010101
  | .tCbpCbp33 => code 7 0b0010100
  | .tCbpCbp6 => code 7 0b0010011
  | .tCbpCbp10 => code 7 0b0010010
  | .tCbpCbp18 => code 7 0b0010001
  | .tCbpCbp34 => code 7 0b0010000
  | .tCbpCbp7 => code 8 0b00011111
  | .tCbpCbp11 => code 8 0b00011110
  | .tCbpCbp19 => code 8 0b00011101
  | .tCbpCbp35 => code 8 0b00011100
  | .tCbpCbp13 => code 8 0b00011011
  | .tCbpCbp49 => code 8 0b00011010
  | .tCbpCbp21 => code 8 0b00011001
  | .tCbpCbp41 => code 8 0b00011000
  | .tCbpCbp14 => code 8 0b00010111
  | .tCbpCbp50 => code 8 0b00010110
  | .tCbpCbp22 => code 8 0b00010101
  | .tCbpCbp42 => code 8 0b00010100
  | .tCbpCbp15 => code 8 0b00010011
  | .tCbpCbp51 => code 8 0b00010010
  | .tCbpCbp23 => code 8 0b00010001
  | .tCbpCbp43 => code 8 0b00010000
  | .tCbpCbp25 => code 8 0b00001111
  | .tCbpCbp37 => code 8 0b00001110
  | .tCbpCbp26 => code 8 0b00001101
  | .tCbpCbp38 => code 8 0b00001100
  | .tCbpCbp29 => code 8 0b00001011
  | .tCbpCbp45 => code 8 0b00001010
  | .tCbpCbp53 => code 8 0b00001001
  | .tCbpCbp57 => code 8 0b00001000
  | .tCbpCbp30 => code 8 0b00000111
  | .tCbpCbp46 => code 8 0b00000110
  | .tCbpCbp54 => code 8 0b00000101
  | .tCbpCbp58 => code 8 0b00000100
  | .tCbpCbp31 => code 9 0b000000111
  | .tCbpCbp47 => code 9 0b000000110
  | .tCbpCbp55 => code 9 0b000000101
  | .tCbpCbp59 => code 9 0b000000100
  | .tCbpCbp27 => code 9 0b000000011
  | .tCbpCbp39 => code 9 0b000000010
  | .tDclSize0 => code 3 0b100
  | .tDclSize1 => code 2 0b00
  | .tDclSize2 => code 2 0b01
  | .tDclSize3 => code 3 0b101
  | .tDclSize4 => code 3 0b110
  | .tDclSize5 => code 4 0b1110
  | .tDclSize6 => code 5 0b11110
  | .tDclSize7 => code 6 0b111110
  | .tDclSize8 => code 7 0b1111110
  | .tDccSize0 => code 2 0b00
  | .tDccSize1 => code 2 0b01
  | .tDccSize2 => code 2 0b10
  | .tDccSize3 => code 3 0b110
  | .tDccSize4 => code 4 0b1110
  | .tDccSize5 => code 5 0b11110
  | .tDccSize6 => code 6 0b111110
  | .tDccSize7 => code 7 0b1111110
  | .tDccSize8 => code 8 0b11111110

/-- The context an instruction is decoded in (R80). The rows of `T_AC` stand in both AC tables: `.vlc .acn` is given. -/
def Instr.ctx (i : Instr) : Ctx :=
  match i with
  | .nop | .vldMba | .vldMbtI | .vldMbtP | .vldMbtB | .vldMbtD | .vldMv | .vldCbp | .vldDcl | .vldDcc
  | .vldDcd _ | .vldAcf | .vldAcn | .mvrSetupF _ _ | .mvrSetupB _ _ | .mvrResetF | .mvrResetB
  | .mvrCalcF _ _ _ _ | .mvrCalcB _ _ _ _ | .cbWr _ _ | .cbRd _ | .idctBlk | .status => .command
  | .tMbaIncr1 | .tMbaIncr2 | .tMbaIncr3 | .tMbaIncr4 | .tMbaIncr5 | .tMbaIncr6 | .tMbaIncr7 | .tMbaIncr8
  | .tMbaIncr9 | .tMbaIncr10 | .tMbaIncr11 | .tMbaIncr12 | .tMbaIncr13 | .tMbaIncr14 | .tMbaIncr15
  | .tMbaIncr16 | .tMbaIncr17 | .tMbaIncr18 | .tMbaIncr19 | .tMbaIncr20 | .tMbaIncr21 | .tMbaIncr22
  | .tMbaIncr23 | .tMbaIncr24 | .tMbaIncr25 | .tMbaIncr26 | .tMbaIncr27 | .tMbaIncr28 | .tMbaIncr29
  | .tMbaIncr30 | .tMbaIncr31 | .tMbaIncr32 | .tMbaIncr33 | .tMbaStuffing | .tMbaEscape => .vlc .mba
  | .tMbtIQ0f0b0p0i1 | .tMbtIQ1f0b0p0i1 => .vlc .mbtI
  | .tMbtPQ0f1b0p1i0 | .tMbtPQ0f0b0p1i0 | .tMbtPQ0f1b0p0i0 | .tMbtPQ0f0b0p0i1 | .tMbtPQ1f1b0p1i0
  | .tMbtPQ1f0b0p1i0 | .tMbtPQ1f0b0p0i1 => .vlc .mbtP
  | .tMbtBQ0f1b1p0i0 | .tMbtBQ0f1b1p1i0 | .tMbtBQ0f0b1p0i0 | .tMbtBQ0f0b1p1i0 | .tMbtBQ0f1b0p0i0
  | .tMbtBQ0f1b0p1i0 | .tMbtBQ0f0b0p0i1 | .tMbtBQ1f1b1p1i0 | .tMbtBQ1f1b0p1i0 | .tMbtBQ1f0b1p1i0
  | .tMbtBQ1f0b0p0i1 => .vlc .mbtB
  | .tMbtDQ0f0b0p0i1 => .vlc .mbtD
  | .tMvCode0 | .tMvCode1 | .tMvCodeM1 | .tMvCode2 | .tMvCodeM2 | .tMvCode3 | .tMvCodeM3 | .tMvCode4
  | .tMvCodeM4 | .tMvCode5 | .tMvCodeM5 | .tMvCode6 | .tMvCodeM6 | .tMvCode7 | .tMvCodeM7 | .tMvCode8
  | .tMvCodeM8 | .tMvCode9 | .tMvCodeM9 | .tMvCode10 | .tMvCodeM10 | .tMvCode11 | .tMvCodeM11 | .tMvCode12
  | .tMvCodeM12 | .tMvCode13 | .tMvCodeM13 | .tMvCode14 | .tMvCodeM14 | .tMvCode15 | .tMvCodeM15 | .tMvCode16
  | .tMvCodeM16 => .vlc .mv
  | .tCbpCbp60 | .tCbpCbp4 | .tCbpCbp8 | .tCbpCbp16 | .tCbpCbp32 | .tCbpCbp12 | .tCbpCbp48 | .tCbpCbp20
  | .tCbpCbp40 | .tCbpCbp28 | .tCbpCbp44 | .tCbpCbp52 | .tCbpCbp56 | .tCbpCbp1 | .tCbpCbp61 | .tCbpCbp2
  | .tCbpCbp62 | .tCbpCbp24 | .tCbpCbp36 | .tCbpCbp3 | .tCbpCbp63 | .tCbpCbp5 | .tCbpCbp9 | .tCbpCbp17
  | .tCbpCbp33 | .tCbpCbp6 | .tCbpCbp10 | .tCbpCbp18 | .tCbpCbp34 | .tCbpCbp7 | .tCbpCbp11 | .tCbpCbp19
  | .tCbpCbp35 | .tCbpCbp13 | .tCbpCbp49 | .tCbpCbp21 | .tCbpCbp41 | .tCbpCbp14 | .tCbpCbp50 | .tCbpCbp22
  | .tCbpCbp42 | .tCbpCbp15 | .tCbpCbp51 | .tCbpCbp23 | .tCbpCbp43 | .tCbpCbp25 | .tCbpCbp37 | .tCbpCbp26
  | .tCbpCbp38 | .tCbpCbp29 | .tCbpCbp45 | .tCbpCbp53 | .tCbpCbp57 | .tCbpCbp30 | .tCbpCbp46 | .tCbpCbp54
  | .tCbpCbp58 | .tCbpCbp31 | .tCbpCbp47 | .tCbpCbp55 | .tCbpCbp59 | .tCbpCbp27 | .tCbpCbp39 => .vlc .cbp
  | .tDclSize0 | .tDclSize1 | .tDclSize2 | .tDclSize3 | .tDclSize4 | .tDclSize5 | .tDclSize6 | .tDclSize7
  | .tDclSize8 => .vlc .dcl
  | .tDccSize0 | .tDccSize1 | .tDccSize2 | .tDccSize3 | .tDccSize4 | .tDccSize5 | .tDccSize6 | .tDccSize7
  | .tDccSize8 => .vlc .dcc
  | .tAcfRun0Level1First _ => .vlc .acf
  | .tAcRun1Level1 _ | .tAcRun0Level2 _ | .tAcRun2Level1 _ | .tAcRun0Level3 _ | .tAcRun3Level1 _
  | .tAcRun4Level1 _ | .tAcRun1Level2 _ | .tAcRun5Level1 _ | .tAcRun6Level1 _ | .tAcRun7Level1 _
  | .tAcRun0Level4 _ | .tAcRun2Level2 _ | .tAcRun8Level1 _ | .tAcRun9Level1 _ | .tAcRun0Level5 _
  | .tAcRun0Level6 _ | .tAcRun1Level3 _ | .tAcRun3Level2 _ | .tAcRun10Level1 _ | .tAcRun11Level1 _
  | .tAcRun12Level1 _ | .tAcRun13Level1 _ | .tAcRun0Level7 _ | .tAcRun1Level4 _ | .tAcRun2Level3 _
  | .tAcRun4Level2 _ | .tAcRun5Level2 _ | .tAcRun14Level1 _ | .tAcRun15Level1 _ | .tAcRun16Level1 _
  | .tAcRun0Level8 _ | .tAcRun0Level9 _ | .tAcRun0Level10 _ | .tAcRun0Level11 _ | .tAcRun1Level5 _
  | .tAcRun2Level4 _ | .tAcRun3Level3 _ | .tAcRun4Level3 _ | .tAcRun6Level2 _ | .tAcRun7Level2 _
  | .tAcRun8Level2 _ | .tAcRun17Level1 _ | .tAcRun18Level1 _ | .tAcRun19Level1 _ | .tAcRun20Level1 _
  | .tAcRun21Level1 _ | .tAcRun0Level12 _ | .tAcRun0Level13 _ | .tAcRun0Level14 _ | .tAcRun0Level15 _
  | .tAcRun1Level6 _ | .tAcRun1Level7 _ | .tAcRun2Level5 _ | .tAcRun3Level4 _ | .tAcRun5Level3 _
  | .tAcRun9Level2 _ | .tAcRun10Level2 _ | .tAcRun22Level1 _ | .tAcRun23Level1 _ | .tAcRun24Level1 _
  | .tAcRun25Level1 _ | .tAcRun26Level1 _ | .tAcRun0Level16 _ | .tAcRun0Level17 _ | .tAcRun0Level18 _
  | .tAcRun0Level19 _ | .tAcRun0Level20 _ | .tAcRun0Level21 _ | .tAcRun0Level22 _ | .tAcRun0Level23 _
  | .tAcRun0Level24 _ | .tAcRun0Level25 _ | .tAcRun0Level26 _ | .tAcRun0Level27 _ | .tAcRun0Level28 _
  | .tAcRun0Level29 _ | .tAcRun0Level30 _ | .tAcRun0Level31 _ | .tAcRun0Level32 _ | .tAcRun0Level33 _
  | .tAcRun0Level34 _ | .tAcRun0Level35 _ | .tAcRun0Level36 _ | .tAcRun0Level37 _ | .tAcRun0Level38 _
  | .tAcRun0Level39 _ | .tAcRun0Level40 _ | .tAcRun1Level8 _ | .tAcRun1Level9 _ | .tAcRun1Level10 _
  | .tAcRun1Level11 _ | .tAcRun1Level12 _ | .tAcRun1Level13 _ | .tAcRun1Level14 _ | .tAcRun1Level15 _
  | .tAcRun1Level16 _ | .tAcRun1Level17 _ | .tAcRun1Level18 _ | .tAcRun6Level3 _ | .tAcRun11Level2 _
  | .tAcRun12Level2 _ | .tAcRun13Level2 _ | .tAcRun14Level2 _ | .tAcRun15Level2 _ | .tAcRun16Level2 _
  | .tAcRun27Level1 _ | .tAcRun28Level1 _ | .tAcRun29Level1 _ | .tAcRun30Level1 _ | .tAcRun31Level1 _
  | .tAcnEndOfBlock | .tAcnRun0Level1Next _ | .tAcEscapeShort _ _ | .tAcEscapeLongPos _ _
  | .tAcEscapeLongNeg _ _ => .vlc .acn
  | .dcDiffSize1 _ => .dcDiff 1
  | .dcDiffSize2 _ => .dcDiff 2
  | .dcDiffSize3 _ => .dcDiff 3
  | .dcDiffSize4 _ => .dcDiff 4
  | .dcDiffSize5 _ => .dcDiff 5
  | .dcDiffSize6 _ => .dcDiff 6
  | .dcDiffSize7 _ => .dcDiff 7
  | .dcDiffSize8 _ => .dcDiff 8
  | .mvResidualRSize1 _ => .residual 1
  | .mvResidualRSize2 _ => .residual 2
  | .mvResidualRSize3 _ => .residual 3
  | .mvResidualRSize4 _ => .residual 4
  | .mvResidualRSize5 _ => .residual 5
  | .mvResidualRSize6 _ => .residual 6

/-! ## The opcode table's words -/

/-- The order in which a codeword's table is sought when only its bits are given: the opcode table numbers a row's bits but
not the command that reads them, and the same bits can be a row of several tables (log entry 12). -/
def tableOrder : List Table :=
  [.cbp, .dcc, .acn, .acf, .mba, .mv, .dcl, .mbtB, .mbtP, .mbtI, .mbtD]

/-- The instruction the decoder reads from the `nbits` bits `w` of an opcode-table row, numbered as the table numbers them:
a 32-bit word is a command; fewer bits are the whole codeword of the first table that has it. -/
def decodeTableWord (nbits w : Nat) : Option Instr :=
  if nbits = 32 then
    match decode .command (code 32 w) with
    | .ok i _ => some i
    | .error _ => none
  else
    tableOrder.findSome? fun t =>
      match decode (.vlc t) (code nbits w) with
      | .ok i [] => some i
      | .ok _ (_ :: _) => none
      | .error _ => none

/-- The command that decodes a table (R82). -/
def Table.command : Table → Instr
  | .mba => .vldMba
  | .mbtI => .vldMbtI
  | .mbtP => .vldMbtP
  | .mbtB => .vldMbtB
  | .mbtD => .vldMbtD
  | .mv => .vldMv
  | .cbp => .vldCbp
  | .dcl => .vldDcl
  | .dcc => .vldDcc
  | .acf => .vldAcf
  | .acn => .vldAcn

/-- The word of a command: its encoding read as one number. -/
def commandWord (i : Instr) : Word :=
  BitVec.ofNat 32 (bitsToNat (encode i))

end Sys2Proof
end

