-- ==== Sys2Proof/Machine/State.lean ====
section
/-! DEFINITION. The state of M1V-CORE (10_state.md), the records on its ports, the reasons it stops, and the reset state. -/

namespace Sys2Proof.Machine

/-- The five error kinds (60_exceptions.md R210). `missingReference` is the Driver's: the block never raises it (R214). -/
inductive ErrorKind where
  | unexpectedEndOfStream
  | invalidVlcCode
  | missingReference
  | invalidFCode
  | protocolError
deriving DecidableEq, Repr

/-- The two instances of the motion-vector reconstructor (00_scope.md R2). -/
inductive Dir where
  | F
  | B
deriving DecidableEq, Repr

/-- The six registers of one MVR instance (10_state.md R24 to R28). -/
structure Mvr where
  /-- `PREV_H[d]`, two's complement, `PREV_W` bits (R24) -/
  prevH : BitVec Config.prevW
  /-- `PREV_V[d]`, two's complement, `PREV_W` bits (R24) -/
  prevV : BitVec Config.prevW
  /-- `F[d]`, the scale (R25) -/
  f : BitVec 7
  /-- `RSIZE[d]`, the bit-length of a residual (R26) -/
  rSize : BitVec 3
  /-- `FULLPEL[d]` (R27) -/
  fullPel : Bool
  /-- `VALID[d]` (R28) -/
  valid : Bool
deriving DecidableEq, Repr

/-- The MVR registers after reset: `VALID = 0` (10_state.md R37). The spec gives the others no value, and no command reads
them before set-up. DESIGN CHOICE (log entry 5): zero, and `F = 1` because R26 has `F = 1 << RSIZE` always. Unsafe. -/
def Mvr.reset : Mvr :=
  { prevH := 0, prevV := 0, f := 1, rSize := 0, fullPel := false, valid := false }

/-- The coefficient buffer: (index, entry) pairs, indices strictly rising and below 64. An unlisted entry has no value
(10_state.md R32, R37), so every listed one stands for a write. Entries hold `CB_W` bits and are the spec's smallest unit: they
have no byte order (20_memory.md R57, R60). -/
abbrev Memory := List (Nat × BitVec Config.cbW)

/-- The five macroblock-type flags (40_vld_macroblock.md R122). -/
structure TypeFlags where
  quant : Bool
  fwd : Bool
  bwd : Bool
  pattern : Bool
  intra : Bool
deriving DecidableEq, Repr

/-- The six displacement fields of one axis (42_mvr.md R169), as the numbers R83 gives widths for. -/
structure Displacement where
  /-- luma displacement in half pels -/
  l : Int
  /-- its whole pixels -/
  lfull : Int
  /-- its half-pel flag -/
  lhalf : Bool
  /-- chroma displacement in half pels of the chroma grid -/
  c : Int
  /-- its whole pixels -/
  cfull : Int
  /-- its half-pel flag -/
  chalf : Bool
deriving DecidableEq, Repr

/-- What the host is told: the response record of a command (30_encoding.md R83), or the result of a call the host itself
makes on the Bit Reader (20_memory.md R70). -/
inductive Response where
  /-- `OK` with no result field: `NOP`, `MVR.RESET.d`, `CB.WR`, `IDCT.BLK` -/
  | ok
  /-- `VLD.MBA` -/
  | mba (incr : Nat)
  /-- `VLD.MBT.*` -/
  | mbt (flags : TypeFlags)
  /-- `VLD.MV` -/
  | mv (code : Int)
  /-- `VLD.CBP`: bit 5 is block 0, bit 0 is block 5 (40_vld_macroblock.md R128) -/
  | cbp (cbp : BitVec 6)
  /-- `VLD.DCL`, `VLD.DCC` -/
  | dcSize (size : Nat)
  /-- `VLD.DCD` -/
  | dcDiff (diff : Int)
  /-- `VLD.ACF`, `VLD.ACN` -/
  | ac (eob esc : Bool) (run : Nat) (level : Int)
  /-- `MVR.SETUP.d` -/
  | setup (f : BitVec 7) (rSize : BitVec 3)
  /-- `MVR.CALC.d`: the horizontal and the vertical axis -/
  | vector (h v : Displacement)
  /-- `CB.RD` -/
  | value (value : BitVec Config.cbW)
  /-- `STATUS` -/
  | status (statusWord : BitVec 32) (epos : Nat)
  /-- `ERR` with the error's code -/
  | err (ecode : BitVec 3)
  /-- the host's own `BitPeek`, `BitRead` or `BitReadS` -/
  | hostBits (v : Int)
  /-- the host's own `IsByteAligned` -/
  | hostAligned (b : Bool)
  /-- the host's own read met the end of the stream; the block's `STATUS` records nothing (60_exceptions.md R211) -/
  | hostEndOfStream
deriving DecidableEq, Repr

/-- What the host can do to the block and to the cursor they share (10_state.md R35, 20_memory.md R70). -/
inductive HostAction where
  /-- present a command word -/
  | command (word : BitVec 32)
  /-- assert the reset input between commands (70_reset_and_hazards.md R240) -/
  | reset
  /-- present a command word and assert the reset input before it ends: the command is abandoned without a response and
  nothing of it survives (93_implementation_defined.md U19; log entry 15) -/
  | resetDuring (word : BitVec 32)
  /-- the host's `BitPeek(n)` -/
  | bitPeek (n : Nat)
  /-- the host's `BitRead(n)`: `BR.READ n` (30_encoding.md R106) -/
  | bitRead (n : Nat)
  /-- the host's `BitReadS(n)` -/
  | bitReadS (n : Nat)
  /-- the host's `IsByteAligned()` -/
  | isByteAligned
deriving DecidableEq, Repr

/-- The state of the block (10_state.md R20), of its ports (R35), and of the Bit Reader it reads through (R22, R23). -/
structure State where
  /-- `BS`: the whole bitstream, fixed for the run and never written (R23; log entry 3) -/
  bs : List Bool
  /-- `pos`: the index of the next unread bit (R22) -/
  pos : Nat
  /-- the forward MVR registers -/
  mvrF : Mvr
  /-- the backward MVR registers -/
  mvrB : Mvr
  /-- `CB[0..63]` (R32) -/
  cb : Memory
  /-- `STATUS.ERR` (R30) -/
  err : Bool
  /-- `STATUS.ECODE` (R30) -/
  ecode : BitVec 3
  /-- `STATUS.EOP` (R30) -/
  eop : BitVec 8
  /-- `EPOS` (R30) -/
  epos : Nat
  /-- the host's actions still to come, the next one first (log entry 1) -/
  port : List HostAction
  /-- the records given to the host so far, the latest first (log entry 2) -/
  responses : List Response
  /-- MODEL's own (log entry 10): the opcode of the command now or last executed, for `EOP` -/
  op : BitVec 8
  /-- MODEL's own (log entry 10): the running increment inside a `VLD.MBA` (R34) -/
  acc : Nat
deriving DecidableEq, Repr

/-- Why the machine stops with a fault: it never does. Every error of the block is a next state, the sticky error state
of 60_exceptions.md R216, and every address the block can form exists (20_memory.md R58), so there is no constructor
(log entry 26). Safe. -/
inductive Fault where
deriving DecidableEq, Repr

/-- Why the machine refuses. -/
inductive Refusal where
  /-- An instruction the model gives no meaning. Raised by no instruction of this model; safe. -/
  | notModelled (mnemonic : String)
  /-- `CB.RD` or `IDCT.BLK` reads an entry nothing has written since reset; `idx` is the first such entry. The spec demands
  the refusal (10_state.md R32, 93_implementation_defined.md U4); safe. -/
  | coefficientUnwritten (idx : Nat)
  /-- The host calls `BitPeek`, `BitRead` or `BitReadS` with `n = 0` or `n > 32`, outside the Bit Reader's contract
  (20_memory.md R52, 93_implementation_defined.md U12); safe. -/
  | peekWidth (n : Nat)
  /-- With a fixed `INCR_W`, an address increment `incr` that does not fit it: outside the spec, never wrapped
  (45_arithmetic_and_control.md R205 (b)). Raised by nothing with the unbounded `INCR_W` the spec takes; safe. -/
  | incrementTooWide (incr : Nat)
  /-- With a fixed `POS_W`, a stream of `len` bits whose positions do not all fit it: the cursor does not wrap
  (45_arithmetic_and_control.md R205 (f)). Raised by nothing with the unbounded `POS_W` the spec takes; safe. -/
  | streamTooLong (len : Nat)
deriving DecidableEq, Repr

/-- The outcome of a step of this machine. -/
abbrev Outcome := Host.Outcome State Fault Refusal

/-- The state right after reset (10_state.md R37, 70_reset_and_hazards.md R241): both `VALID` bits, `STATUS` and `EPOS`
zero, no coefficient written, the cursor at `P0`. The stream and the host's actions are the run's inputs: none here. -/
def State.reset : State :=
  { bs := []
    pos := Config.p0
    mvrF := Mvr.reset
    mvrB := Mvr.reset
    cb := []
    err := false
    ecode := 0
    eop := 0
    epos := 0
    port := []
    responses := []
    op := 0
    acc := 0 }

end Sys2Proof.Machine
end

