-- ==== Sys2Proof/Machine/Flags.lean ====
section
/-! DEFINITION. Every flag the block computes: the macroblock-type flags, the half-pel flags with the displacements they are
split from (42_mvr.md R169), and the bits of STATUS (10_state.md R30). None but STATUS.ERR is stored (R31). -/

namespace Sys2Proof.Machine

/-- The flags of a macroblock-type row, in the column order of 30_encoding.md R90. -/
def typeFlags (quant fwd bwd pattern intra : Bool) : TypeFlags :=
  { quant := quant, fwd := fwd, bwd := bwd, pattern := pattern, intra := intra }

/-- The chroma halving of R169 in both settings of `CHROMA_HALVE`: `L >>a 1`, or division by 2 toward zero. -/
def chromaHalve (mode : Config.ChromaHalve) (l : Int) : Int :=
  match mode with
  | .asr => l / 2
  | .trunc => l.sign * ((l.natAbs / 2 : Nat) : Int)

/-- `Outputs(fullpel, new)` (R169) under a setting of `CHROMA_HALVE`; `/ 2` and `% 2` on integers are the floor quotient and
its remainder, `>>a 1` and `& 1` of 00_scope.md R12. -/
def outputsWith (mode : Config.ChromaHalve) (fullPel : Bool) (new : Int) : Displacement :=
  let l := if fullPel then new * 2 else new
  let c := chromaHalve mode l
  { l := l
    lfull := l / 2
    lhalf := decide (l % 2 = 1)
    c := c
    cfull := c / 2
    chalf := decide (c % 2 = 1) }

/-- `Outputs(fullpel, new)` (R169) with the setting the spec takes. -/
def outputs (fullPel : Bool) (new : Int) : Displacement :=
  outputsWith Config.chromaHalve fullPel new

/-- The number of an error kind, the value of `ECODE` (60_exceptions.md R210). -/
def ErrorKind.code : ErrorKind → BitVec 3
  | .unexpectedEndOfStream => 1
  | .invalidVlcCode => 2
  | .missingReference => 3
  | .invalidFCode => 4
  | .protocolError => 5

/-- The copy of `RSIZE[d]` in STATUS: 0 while `VALID[d] = 0` (10_state.md R30). -/
def rSizeCopy (m : Mvr) : BitVec 3 := if m.valid then m.rSize else 0

/-- The copy of `FULLPEL[d]` in STATUS: 0 while `VALID[d] = 0` (10_state.md R30). -/
def fullPelCopy (m : Mvr) : Bool := m.valid && m.fullPel

/-- The 32 bits of STATUS (10_state.md R30), most significant field first. -/
def statusWord (s : State) : BitVec 32 :=
  (0#10 ++ BitVec.ofBool (fullPelCopy s.mvrB) ++ BitVec.ofBool (fullPelCopy s.mvrF) ++
    rSizeCopy s.mvrB ++ rSizeCopy s.mvrF ++ BitVec.ofBool s.mvrB.valid ++ BitVec.ofBool s.mvrF.valid ++
    s.eop ++ s.ecode ++ BitVec.ofBool s.err)

end Sys2Proof.Machine
end

