-- ==== Sys2Proof/Machine/Operands.lean ====
section
/-! DEFINITION. Operand assembly of command words (30_encoding.md R107), the values of stream fields (R100, R101), and the
integer laws all units share (00_scope.md R11 to R14). -/

namespace Sys2Proof.Machine

/-- `code_h`, `code_v`: `sext_6` of the field, -32 to 31 (R107). -/
def codeOperand (field : BitVec 6) : Int := field.toInt

/-- `r_h`, `r_v`: unsigned, 0 to 63 (R107). -/
def residualOperand (field : BitVec 6) : Nat := field.toNat

/-- A legal f-code, `F_CODE_W` (00_scope.md R7, 42_mvr.md R161). -/
def fCodeLegal (fCode : BitVec Config.fCodeW) : Bool :=
  decide (Config.fCodeMin ≤ fCode.toNat) && decide (fCode.toNat ≤ Config.fCodeMax)

/-- A natural number fits a register of the given width; none is unbounded (`POS_W`, `INCR_W` of 00_scope.md R7). A number
that does not fit is outside the spec and never wrapped (45_arithmetic_and_control.md R205 (b), (f)). -/
def fits (width : Option Nat) (n : Nat) : Bool :=
  match width with
  | none => true
  | some w => decide (n < 2 ^ w)

/-- A motion code `MVR.CALC.d` accepts: -16 to 16 (42_mvr.md R166). -/
def codeLegal (code : Int) : Bool := decide (-16 ≤ code) && decide (code ≤ 16)

/-- The DC differential of `size` bits `raw` (R101, 41_vld_block.md R142): `raw` when its top bit is 1, else
`((-1) << size) | (raw + 1)`, which is `raw + 1 - 2^size`; no bits give 0. -/
def dcDiff (size raw : Nat) : Int :=
  if size = 0 then 0
  else if raw.testBit (size - 1) then (raw : Int)
  else (raw : Int) + 1 - 2 ^ size

/-- The level of an AC row of magnitude `mag` and sign bit `s`: 0 positive, 1 negative (R99). -/
def acLevel (mag : Nat) (s : Bool) : Int := if s then -(mag : Int) else (mag : Int)

/-- The level of a short escape: `sext_8(lv)` (R100). -/
def escapeLevelShort (lv : BitVec 8) : Int := lv.toInt

/-- The level after `lv = 0x00`: `m` (R100). -/
def escapeLevelPos (m : BitVec 8) : Int := (m.toNat : Int)

/-- The level after `lv = 0x80`: `m - 256` (R100). -/
def escapeLevelNeg (m : BitVec 8) : Int := (m.toNat : Int) - 256

/-- The forbidden values of the long positive form: `m` in 0 to 127 (R104). -/
def forbiddenPos (m : BitVec 8) : Bool := decide (m.toNat ≤ 127)

/-- The forbidden values of the long negative form: `m = 0` and `m` in 129 to 255 (R104). -/
def forbiddenNeg (m : BitVec 8) : Bool := decide (m.toNat = 0) || decide (129 ≤ m.toNat)

/-- `rnd_shift(v, s)`: `v / 2^s` to the nearest integer, ties away from zero (00_scope.md R14, 90_conflicts.md C1). -/
def rndShift (v : Int) (s : Nat) : Int :=
  v.sign * (((v.natAbs + 2 ^ (s - 1)) / 2 ^ s : Nat) : Int)

end Sys2Proof.Machine
end

