-- ==== Sys2Proof/Machine/Ops.lean ====
section
/-! DEFINITION. The named operations every meaning is written over: the bit port, the coefficient buffer, the response,
the MVR registers by direction, raising an error and the reset event that is the only way out of it, and the frame of a
command. -/

namespace Sys2Proof.Machine

/-! ## The bit port (20_memory.md R52 to R56) -/

/-- `LEN - pos`: the bits that remain (10_state.md R23). -/
def State.remaining (s : State) : Nat := s.bs.length - s.pos

/-- `BitPeek(n)`: the next `n` bits, first bit first; none is `UnexpectedEndOfStream` (R52). -/
def bitPeek (n : Nat) (s : State) : Option Bits :=
  if s.remaining < n then none else some ((s.bs.drop s.pos).take n)

/-- `BitSkip(n)`: `pos <- pos + n`, an addition on naturals that never wraps (R53, 45_arithmetic_and_control.md R205 (f)). That
every position of the stream fits `POS_W` is asked before an action is taken (`fetch`). -/
def bitSkip (n : Nat) (s : State) : State := { s with pos := s.pos + n }

/-- `BitRead(n)`: the value of the next `n` bits, consumed; none consumes nothing (R54). -/
def bitRead (n : Nat) (s : State) : Option (Nat × State) :=
  (bitPeek n s).map fun w => (bitsToNat w, bitSkip n s)

/-- `BitReadS(n)`: `sext_n(BitRead(n))` (R55). -/
def bitReadS (n : Nat) (s : State) : Option (Int × State) :=
  (bitRead n s).map fun r => (sextN n r.1, r.2)

/-- `IsByteAligned()` (R56). -/
def isByteAligned (s : State) : Bool := s.pos % 8 == 0

/-! ## The coefficient buffer (20_memory.md R60) -/

/-- `CB[i]`; none is an entry nothing has written since reset. -/
def Memory.read : Memory → Nat → Option (BitVec Config.cbW)
  | [], _ => none
  | (j, v) :: rest, i => if j = i then some v else Memory.read rest i

/-- `CB[i] <- v`, keeping the indices strictly rising. -/
def Memory.write : Memory → Nat → BitVec Config.cbW → Memory
  | [], i, v => [(i, v)]
  | (j, w) :: rest, i, v =>
    if i < j then (i, v) :: (j, w) :: rest
    else if i = j then (i, v) :: rest
    else (j, w) :: Memory.write rest i v

/-- Every listed index lies in `lo` to 63 and they rise strictly. -/
def Memory.wfFrom : Nat → Memory → Bool
  | _, [] => true
  | lo, (j, _) :: rest => decide (lo ≤ j) && decide (j < 64) && Memory.wfFrom (j + 1) rest

/-- The canonical form: strictly rising indices, each below 64. -/
def Memory.wf (m : Memory) : Bool := Memory.wfFrom 0 m

/-! ## MVR registers by direction (10_state.md R24 to R29) -/

/-- The registers of one direction. -/
def State.mvr (s : State) (d : Dir) : Mvr :=
  match d with
  | .F => s.mvrF
  | .B => s.mvrB

/-- Write the registers of one direction; the other's are untouched (R29). -/
def State.setMvr (s : State) (d : Dir) (m : Mvr) : State :=
  match d with
  | .F => { s with mvrF := m }
  | .B => { s with mvrB := m }

/-! ## Responses, errors, reset -/

/-- Give a record to the host (30_encoding.md R83). -/
def respond (r : Response) (s : State) : State := { s with responses := r :: s.responses }

/-- Record the first error: its kind, the command's opcode and the cursor (60_exceptions.md R216). -/
def recordError (k : ErrorKind) (s : State) : State :=
  if s.err then s
  else { s with err := true, ecode := k.code, eop := s.op, epos := s.pos }

/-- `raise <Kind>`: taking an exception, the one mechanism of the block (60_exceptions.md R216). The error is recorded, the
command stops with nothing more written, the response is `ERR`. Nothing else is saved: there is no saved pc or mode, no
vector, and no return (R219). -/
def raise (k : ErrorKind) (s : State) : State := respond (.err k.code) (recordError k s)

/-- The reset event, the only way out of the error state (70_reset_and_hazards.md R240, R241, 60_exceptions.md R219). The
cursor is the Bit Reader's and stays; so do the stream, the host's coming actions and what it was told. -/
def resetEvent (s : State) : State :=
  { s with
    mvrF := Mvr.reset, mvrB := Mvr.reset, cb := [], err := false, ecode := 0, eop := 0, epos := 0, op := 0, acc := 0 }

/-! ## The frame of a command -/

/-- The error state (60_exceptions.md R216). -/
def State.inErrorState (s : State) : Bool := Config.errSticky && s.err

/-- The answer to a command in the error state: `ERR` with the first error's code, nothing changed (60_exceptions.md R216,
R217 (1)). -/
def refuse (s : State) : State := respond (.err s.ecode) s

/-- A command begins: its opcode is kept for `EOP` and the running increment starts at 0. -/
def beginCommand (op : BitVec 8) (s : State) : State := { s with op := op, acc := 0 }

/-- Every command but STATUS: refused in the error state, else its body runs (40_vld_macroblock.md R120, 42_mvr.md R160,
43_idct.md R180). `op` is the command's opcode. -/
def command (op : BitVec 8) (body : State → Outcome) (s : State) : Outcome :=
  if s.inErrorState then .next (refuse s) else body (beginCommand op s)

/-- The meaning of one row of table `t` whose code has `len` bits: what the command that decodes `t` does once this row has
matched (30_encoding.md R88): peek the table's width, skip the code, go on with `body`. Like every meaning it takes the
bits as already decoded (log entry 8). The opcode of the command that reads it stands in `op`. -/
def codewordThen (t : Table) (len : Nat) (body : State → Outcome) (s : State) : Outcome :=
  if s.inErrorState then .next (refuse s)
  else if s.remaining < t.width then .next (raise .unexpectedEndOfStream s)
  else body (bitSkip len s)

/-- A row whose value is delivered without any further condition. -/
def codeword (t : Table) (len : Nat) (deliver : State → State) (s : State) : Outcome :=
  codewordThen t len (fun s => .next (deliver s)) s

/-- What `VLD.MBA` does with an increment `sum` once it fits `INCR_W`; one that does not fit is outside the spec and refused,
never wrapped (45_arithmetic_and_control.md R205 (b)). -/
def withinIncr (width : Option Nat) (sum : Nat) (o : Outcome) : Outcome :=
  if fits width sum then o else .refused (.incrementTooWide sum)

/-- The meaning of one fixed field of `n` bits: `BitRead(n)` whose bits are already decoded (20_memory.md R54). -/
def field (n : Nat) (deliver : State → State) (s : State) : Outcome :=
  if s.inErrorState then .next (refuse s)
  else if s.remaining < n then .next (raise .unexpectedEndOfStream s)
  else .next (deliver (bitSkip n s))

/-- A command word that is no command: `ProtocolError`, after the error-state check and before anything else
(30_encoding.md R84 (a), (b), 60_exceptions.md R217 (2)). -/
def illegalCommand (w : Word) (s : State) : Outcome :=
  command (opcodeOf w) (fun s => .next (raise .protocolError s)) s

end Sys2Proof.Machine
end

