-- ==== Sys2Proof/Machine/HostReads.lean ====
section
/-! DEFINITION. What the host does on the Bit Reader between two commands (20_memory.md R66, R70), and the meanings of the
motion residual fields, which the host and not the block reads (30_encoding.md R102). The block's error state does not
concern these calls and they never touch `STATUS` (60_exceptions.md R211). -/

namespace Sys2Proof.Machine

/-- A call outside the Bit Reader's contract of 1 to 32 bits is refused (20_memory.md R52, 93_implementation_defined.md
U12); inside it, the given answer. -/
def inPeekContract (n : Nat) (answer : State) : Outcome :=
  if n = 0 ∨ Config.peekMax < n then .refused (.peekWidth n) else .next answer

/-- The host's `BitPeek(n)`. -/
def hostPeek (n : Nat) (s : State) : Outcome :=
  inPeekContract n <|
    match bitPeek n s with
    | none => respond .hostEndOfStream s
    | some w => respond (.hostBits (bitsToNat w)) s

/-- The host's `BitRead(n)`, `BR.READ n`. -/
def hostRead (n : Nat) (s : State) : Outcome :=
  inPeekContract n <|
    match bitRead n s with
    | none => respond .hostEndOfStream s
    | some (v, t) => respond (.hostBits v) t

/-- The host's `BitReadS(n)`. -/
def hostReadS (n : Nat) (s : State) : Outcome :=
  inPeekContract n <|
    match bitReadS n s with
    | none => respond .hostEndOfStream s
    | some (v, t) => respond (.hostBits v) t

/-- A motion residual field of `n` bits holding `r`: the host's `BR.READ n` whose bits are already decoded. -/
def residualRow (n r : Nat) (s : State) : Outcome :=
  if s.remaining < n then .next (respond .hostEndOfStream s)
  else .next (respond (.hostBits r) (bitSkip n s))

def execMvResidualRSize1 (r : BitVec 1) (s : State) : Outcome := residualRow 1 r.toNat s
def execMvResidualRSize2 (r : BitVec 2) (s : State) : Outcome := residualRow 2 r.toNat s
def execMvResidualRSize3 (r : BitVec 3) (s : State) : Outcome := residualRow 3 r.toNat s
def execMvResidualRSize4 (r : BitVec 4) (s : State) : Outcome := residualRow 4 r.toNat s
def execMvResidualRSize5 (r : BitVec 5) (s : State) : Outcome := residualRow 5 r.toNat s
def execMvResidualRSize6 (r : BitVec 6) (s : State) : Outcome := residualRow 6 r.toNat s

end Sys2Proof.Machine
end

