-- ==== Sys2Proof/Machine/Kernel.lean ====
section
/-! DEFINITION. The 1-D kernel of the inverse DCT (43_idct.md R184 to R187, R191) and the values of the two parameters of
00_scope.md R7 that are functions, IDCT1D and ROUND. The kernel is the reference instantiation, the spec's own choice (R191;
log entry 17): the passes of Machine/Idct.lean take any kernel and know nothing of this one. -/

namespace Sys2Proof

/-! ## Rows of eight -/

def Vec8.map {α β : Type} (g : α → β) (a : Vec8 α) : Vec8 β :=
  ⟨g a.v0, g a.v1, g a.v2, g a.v3, g a.v4, g a.v5, g a.v6, g a.v7⟩

def Vec8.toList {α : Type} (a : Vec8 α) : List α :=
  [a.v0, a.v1, a.v2, a.v3, a.v4, a.v5, a.v6, a.v7]

/-- The `i`-th of the eight. -/
def Vec8.get {α : Type} (a : Vec8 α) (i : Fin 8) : α :=
  match i with
  | 0 => a.v0
  | 1 => a.v1
  | 2 => a.v2
  | 3 => a.v3
  | 4 => a.v4
  | 5 => a.v5
  | 6 => a.v6
  | 7 => a.v7

/-- Every one of the eight satisfies `p`. -/
def Vec8.all {α : Type} (p : α → Bool) (a : Vec8 α) : Bool :=
  p a.v0 && p a.v1 && p a.v2 && p a.v3 && p a.v4 && p a.v5 && p a.v6 && p a.v7

/-- The eight pairs combined. -/
def Vec8.zipWith {α β γ : Type} (g : α → β → γ) (a : Vec8 α) (b : Vec8 β) : Vec8 γ :=
  ⟨g a.v0 b.v0, g a.v1 b.v1, g a.v2 b.v2, g a.v3 b.v3, g a.v4 b.v4, g a.v5 b.v5, g a.v6 b.v6, g a.v7 b.v7⟩

namespace Machine

/-! ## The reference network -/

/-! The Q11 constants of R184. -/

def K0 : Int := 565
def K1 : Int := 2276
def K2 : Int := 3406
def K3 : Int := 2408
def K4 : Int := 799
def K5 : Int := 4017
def K6 : Int := 1108
def K7 : Int := 3784
def K8 : Int := 1568
def KR : Int := 1448

/-- The four stages of `Idct1D` before rounding: `y0` to `y7` (R186). -/
def butterfly (v : Vec8 Int) : Vec8 Int :=
  -- stage 1: the two odd rotators
  let t1 := K0 * (v.v1 + v.v7)
  let p4 := t1 + K1 * v.v1
  let p5 := t1 - K2 * v.v7
  let t2 := K3 * (v.v5 + v.v3)
  let p6 := t2 - K4 * v.v5
  let p7 := t2 - K5 * v.v3
  -- stage 2: even part and odd butterflies
  let a0 := (v.v0 + v.v4) * 2048
  let a1 := (v.v0 - v.v4) * 2048
  let t3 := K6 * (v.v2 + v.v6)
  let b2 := t3 - K7 * v.v6
  let b3 := t3 + K8 * v.v2
  let q1 := p4 + p6
  let q4 := p4 - p6
  let q6 := p5 + p7
  let q5 := p5 - p7
  -- stage 3: even butterflies and the two 45-degree rotations
  let e0 := a0 + b3
  let e3 := a0 - b3
  let e1 := a1 + b2
  let e2 := a1 - b2
  let r2 := KR * (q4 + q5)
  let r4 := KR * (q4 - q5)
  -- stage 4: output butterflies at 22 fraction bits
  ⟨e0 * 2048 + q1 * 2048, e1 * 2048 + r2, e2 * 2048 + r4, e3 * 2048 + q6 * 2048,
   e3 * 2048 - q6 * 2048, e2 * 2048 - r4, e1 * 2048 - r2, e0 * 2048 - q1 * 2048⟩

end Machine

/-! ## The parameters that are functions -/

/-- `IDCT1D` (00_scope.md R7): the reference network. -/
def Config.idct1d : Config.Kernel := { network := Machine.butterfly }

/-- `ROUND` (00_scope.md R7): to nearest, ties away from zero, of `v / 2^s`. -/
def Config.round (v : Int) (s : Nat) : Int := Machine.rndShift v s

/-- What R191 asks of a substituted kernel before rounding: linear, which over the integers is additive. Odd symmetry after
rounding follows. -/
def Config.Kernel.Admissible (k : Config.Kernel) : Prop :=
  ∀ a b : Vec8 Int, k.network (Vec8.zipWith (· + ·) a b) = Vec8.zipWith (· + ·) (k.network a) (k.network b)

/-- `Idct1D(v0, ..., v7; S)` with kernel `k`: the network, then one rounding per output (R185, R186). -/
def Config.Kernel.run (k : Config.Kernel) (shift : Nat) (v : Vec8 Int) : Vec8 Int :=
  (k.network v).map fun y => Config.round y shift

end Sys2Proof
end

