-- ==== Sys2Proof/Machine/Idct.lean ====
section
/-! DEFINITION. The inverse DCT unit (43_idct.md): the two passes, with the 1-D kernel as a parameter (R191), the coefficient
buffer as a block, and the three commands. -/

namespace Sys2Proof.Machine

/-! ## The two passes -/

/-- An 8×8 block, row by row (20_memory.md R61). -/
abbrev Block := Vec8 (Vec8 Int)

/-- Rows become columns. -/
def transpose {α : Type} (b : Vec8 (Vec8 α)) : Vec8 (Vec8 α) :=
  ⟨b.map Vec8.v0, b.map Vec8.v1, b.map Vec8.v2, b.map Vec8.v3,
   b.map Vec8.v4, b.map Vec8.v5, b.map Vec8.v6, b.map Vec8.v7⟩

/-- The row pass: the internal array `T` (R188). -/
def rowPass (k : Config.Kernel) (b : Block) : Block := b.map (k.run Config.sRow)

/-- The column pass (R188). -/
def columnPass (k : Config.Kernel) (t : Block) : Block := transpose ((transpose t).map (k.run Config.sCol))

/-- A residual under a setting of `IDCT_CLAMP` (00_scope.md R7). -/
def saturate (clamp : Option (Int × Int)) (v : Int) : Int :=
  match clamp with
  | none => v
  | some (lo, hi) => max lo (min hi v)

/-- The transform with kernel `k`: rows first, then columns, then `IDCT_CLAMP` (R183, R188). -/
def idctWith (k : Config.Kernel) (b : Block) : Block :=
  (columnPass k (rowPass k b)).map (Vec8.map (saturate Config.idctClamp))

/-- The transform with the kernel the spec takes. -/
def idct2d (b : Block) : Block := idctWith Config.idct1d b

/-! ## The buffer as a block -/

/-- The first of the 64 entries nothing has written, counting from `i` over the next `n`. -/
def firstUnwritten (m : Memory) : Nat → Nat → Option Nat
  | _, 0 => none
  | i, n + 1 =>
    match m.read i with
    | none => some i
    | some _ => firstUnwritten m (i + 1) n

/-- Entry `i` as the number it stands for (`CB_W`-bit two's complement). -/
def entryInt (m : Memory) (i : Nat) : Int := ((m.read i).getD 0).toInt

/-- Row `r`: entries `8r` to `8r + 7` (20_memory.md R61). -/
def rowOf (m : Memory) (r : Nat) : Vec8 Int :=
  ⟨entryInt m (8 * r), entryInt m (8 * r + 1), entryInt m (8 * r + 2), entryInt m (8 * r + 3),
   entryInt m (8 * r + 4), entryInt m (8 * r + 5), entryInt m (8 * r + 6), entryInt m (8 * r + 7)⟩

/-- The 64 entries as a block. -/
def blockOf (m : Memory) : Block :=
  ⟨rowOf m 0, rowOf m 1, rowOf m 2, rowOf m 3, rowOf m 4, rowOf m 5, rowOf m 6, rowOf m 7⟩

/-- The entries of a list of values, from index `i` on. -/
def entriesFrom : Nat → List Int → Memory
  | _, [] => []
  | i, v :: vs => (i, BitVec.ofInt Config.cbW v) :: entriesFrom (i + 1) vs

/-- The buffer that holds a block. -/
def memoryOf (b : Block) : Memory := entriesFrom 0 (b.toList.flatMap Vec8.toList)

/-- A coefficient `IDCT.BLK` accepts (R183). -/
def coefLegal (v : Int) : Bool := decide (Config.coefMin ≤ v) && decide (v ≤ Config.coefMax)

/-- The body of `IDCT.BLK` (R183): refused when an entry was never written (U4; log entry 7), `ProtocolError` with nothing
written when one is out of range, else the 64 residuals in place. -/
def idctBody (s : State) : Outcome :=
  match firstUnwritten s.cb 0 64 with
  | some i => .refused (.coefficientUnwritten i)
  | none =>
    if (blockOf s.cb).all (Vec8.all coefLegal) then
      .next (respond .ok { s with cb := memoryOf (idct2d (blockOf s.cb)) })
    else .next (raise .protocolError s)

/-- The body of `CB.RD` (R182). -/
def cbReadBody (idx : BitVec 6) (s : State) : Outcome :=
  match s.cb.read idx.toNat with
  | none => .refused (.coefficientUnwritten idx.toNat)
  | some v => .next (respond (.value v) s)

/-- `CB.WR` (R181): the entry becomes `sext_16(cmd[15:0])`; the range is not checked here. -/
def execCbWr (idx : BitVec 6) (value : BitVec 16) (s : State) : Outcome :=
  command 0x20 (fun s => .next (respond .ok { s with cb := s.cb.write idx.toNat (value.signExtend Config.cbW) })) s

/-- `CB.RD` (R182). -/
def execCbRd (idx : BitVec 6) (s : State) : Outcome := command 0x21 (cbReadBody idx) s

/-- `IDCT.BLK` (R183). -/
def execIdctBlk (s : State) : Outcome := command 0x22 idctBody s

end Sys2Proof.Machine
end

