-- ==== Sys2Proof/Machine/Mvr.lean ====
section
/-! DEFINITION. The motion-vector reconstructor (42_mvr.md). -/

namespace Sys2Proof.Machine

/-- `MVR.SETUP.d` (R161): scale, residual length and full-pel flag loaded, predictor zeroed, the direction made valid; an
illegal f-code, 0, raises `InvalidFCode` with nothing written. -/
def mvrSetup (d : Dir) (fullPel : Bool) (fCode : BitVec Config.fCodeW) (s : State) : Outcome :=
  if fCodeLegal fCode = false then .next (raise .invalidFCode s)
  else
    let rSize := fCode - 1
    let f := 1#7 <<< rSize.toNat
    .next (respond (.setup f rSize)
      (s.setMvr d { prevH := 0, prevV := 0, f := f, rSize := rSize, fullPel := fullPel, valid := true }))

/-- `MVR.RESET.d` (R163): the two accumulators zeroed, nothing else written, also while `VALID[d] = 0`. -/
def mvrReset (d : Dir) (s : State) : Outcome :=
  .next (respond .ok (s.setMvr d { s.mvr d with prevH := 0, prevV := 0 }))

/-- The complement `rc` of the residual (R165): 0 when the residual is not used; none when a used residual is not below
`f`. -/
def residualComplement (f : Nat) (code : Int) (r : Nat) : Option Int :=
  if f = 1 ∨ code = 0 then some 0
  else if f ≤ r then none
  else some ((f : Int) - 1 - (r : Int))

/-- `MvAxis(f, code, r, prev)` (R165, with the sign pairing of 90_conflicts.md C2); none is `ProtocolError`. -/
def mvAxis (f : Nat) (code : Int) (r : Nat) (prev : Int) : Option Int :=
  match residualComplement f code r with
  | none => none
  | some rc =>
    let little := if 0 < code then code * f - rc else if code < 0 then code * f + rc else 0
    let big := if 0 < code then little - f * 32 else if code < 0 then little + f * 32 else 0
    let sum := prev + little
    if -((f : Int) * 16) ≤ sum ∧ sum ≤ (f : Int) * 16 - 1 then some sum else some (prev + big)

/-- `MVR.CALC.d` (R166): every check before any write, in the order of 60_exceptions.md R217; then both accumulators and
the twelve output fields. -/
def mvrCalc (d : Dir) (codeH rH codeV rV : BitVec 6) (s : State) : Outcome :=
  let m := s.mvr d
  if m.valid = false then .next (raise .protocolError s)
  else if codeLegal (codeOperand codeH) = false ∨ codeLegal (codeOperand codeV) = false then
    .next (raise .protocolError s)
  else
    match mvAxis m.f.toNat (codeOperand codeH) (residualOperand rH) m.prevH.toInt with
    | none => .next (raise .protocolError s)
    | some nh =>
      match mvAxis m.f.toNat (codeOperand codeV) (residualOperand rV) m.prevV.toInt with
      | none => .next (raise .protocolError s)
      | some nv =>
        .next (respond (.vector (outputs m.fullPel nh) (outputs m.fullPel nv))
          (s.setMvr d { m with prevH := BitVec.ofInt Config.prevW nh, prevV := BitVec.ofInt Config.prevW nv }))

/-- `MVR.SETUP.F` (R161). -/
def execMvrSetupF (fullPel : Bool) (fCode : BitVec Config.fCodeW) (s : State) : Outcome :=
  command 0x10 (mvrSetup .F fullPel fCode) s

/-- `MVR.SETUP.B` (R162). -/
def execMvrSetupB (fullPel : Bool) (fCode : BitVec Config.fCodeW) (s : State) : Outcome :=
  command 0x11 (mvrSetup .B fullPel fCode) s

/-- `MVR.RESET.F` (R163). -/
def execMvrResetF (s : State) : Outcome := command 0x12 (mvrReset .F) s

/-- `MVR.RESET.B` (R164). -/
def execMvrResetB (s : State) : Outcome := command 0x13 (mvrReset .B) s

/-- `MVR.CALC.F` (R166). -/
def execMvrCalcF (codeH rH codeV rV : BitVec 6) (s : State) : Outcome :=
  command 0x14 (mvrCalc .F codeH rH codeV rV) s

/-- `MVR.CALC.B` (R167). -/
def execMvrCalcB (codeH rH codeV rV : BitVec 6) (s : State) : Outcome :=
  command 0x15 (mvrCalc .B codeH rH codeV rV) s

end Sys2Proof.Machine
end

