-- ==== Sys2Proof/Machine/System.lean ====
section
/-! DEFINITION. The system commands (44_system.md). -/

namespace Sys2Proof.Machine

/-- `NOP` (R200): in the error state it is refused like every other command. -/
def execNop (s : State) : Outcome := command 0x00 (fun s => .next (respond .ok s)) s

/-- `STATUS` (R201): the one command that is not refused in the error state; it clears nothing. -/
def execStatus (s : State) : Outcome := .next (respond (.status (statusWord s) s.epos) s)

end Sys2Proof.Machine
end

