-- ==== Sys2Proof/Machine/CodewordsBlock.lean ====
section
/-! DEFINITION. The meanings of the codewords of the block layer: the rows of `T_DCL`, `T_DCC`, `T_AC` and its two variants,
the three escape forms, and the DC differential fields (30_encoding.md R96 to R101). -/

namespace Sys2Proof.Machine

/-- A DC size code: the command ends with its value (41_vld_block.md R140, R141). -/
def dcSizeRow (t : Table) (len size : Nat) (s : State) : Outcome :=
  codeword t len (respond (.dcSize size)) s

/-- A run/level code of `len` bits with its sign bit `sign`: the command ends with the run and the signed level
(41_vld_block.md R143, R144, 30_encoding.md R99). -/
def acRow (t : Table) (len run mag : Nat) (sign : Bool) (s : State) : Outcome :=
  codeword t len (respond (.ac false false run (acLevel mag sign))) s

/-- Consume fields of the given widths one after another; the first that the stream is too short for raises
`UnexpectedEndOfStream` and the earlier ones stay consumed (20_memory.md R71). -/
def takeFields : List Nat → (State → State) → State → State
  | [], finish, s => finish s
  | n :: ns, finish, s =>
    if s.remaining < n then raise .unexpectedEndOfStream s else takeFields ns finish (bitSkip n s)

/-- The end of an escape: run and level delivered, or, for a forbidden level under `ESC_FORBIDDEN = fault`,
`InvalidVlcCode` with the fields consumed (30_encoding.md R104, 41_vld_block.md R145). -/
def escapeFinish (mode : Config.EscForbidden) (run : BitVec 6) (level : Int) (forbidden : Bool) (s : State) : State :=
  if mode = .fault ∧ forbidden = true then raise .invalidVlcCode s
  else respond (.ac false true run.toNat level) s

/-- A DC differential field of `size` bits holding `raw`: `VLD.DCD` ends with its value (41_vld_block.md R142). -/
def dcDiffRow (size raw : Nat) (s : State) : Outcome :=
  field size (respond (.dcDiff (dcDiff size raw))) s

/-! ### T_DCL -/

def execTDclSize0 (s : State) : Outcome := dcSizeRow .dcl 3 0 s
def execTDclSize1 (s : State) : Outcome := dcSizeRow .dcl 2 1 s
def execTDclSize2 (s : State) : Outcome := dcSizeRow .dcl 2 2 s
def execTDclSize3 (s : State) : Outcome := dcSizeRow .dcl 3 3 s
def execTDclSize4 (s : State) : Outcome := dcSizeRow .dcl 3 4 s
def execTDclSize5 (s : State) : Outcome := dcSizeRow .dcl 4 5 s
def execTDclSize6 (s : State) : Outcome := dcSizeRow .dcl 5 6 s
def execTDclSize7 (s : State) : Outcome := dcSizeRow .dcl 6 7 s
def execTDclSize8 (s : State) : Outcome := dcSizeRow .dcl 7 8 s

/-! ### T_DCC -/

def execTDccSize0 (s : State) : Outcome := dcSizeRow .dcc 2 0 s
def execTDccSize1 (s : State) : Outcome := dcSizeRow .dcc 2 1 s
def execTDccSize2 (s : State) : Outcome := dcSizeRow .dcc 2 2 s
def execTDccSize3 (s : State) : Outcome := dcSizeRow .dcc 3 3 s
def execTDccSize4 (s : State) : Outcome := dcSizeRow .dcc 4 4 s
def execTDccSize5 (s : State) : Outcome := dcSizeRow .dcc 5 5 s
def execTDccSize6 (s : State) : Outcome := dcSizeRow .dcc 6 6 s
def execTDccSize7 (s : State) : Outcome := dcSizeRow .dcc 7 7 s
def execTDccSize8 (s : State) : Outcome := dcSizeRow .dcc 8 8 s

/-! ### T_AC -/

def execTAcRun1Level1 (sign : Bool) (s : State) : Outcome := acRow .acn 4 1 1 sign s
def execTAcRun0Level2 (sign : Bool) (s : State) : Outcome := acRow .acn 5 0 2 sign s
def execTAcRun2Level1 (sign : Bool) (s : State) : Outcome := acRow .acn 5 2 1 sign s
def execTAcRun0Level3 (sign : Bool) (s : State) : Outcome := acRow .acn 6 0 3 sign s
def execTAcRun3Level1 (sign : Bool) (s : State) : Outcome := acRow .acn 6 3 1 sign s
def execTAcRun4Level1 (sign : Bool) (s : State) : Outcome := acRow .acn 6 4 1 sign s
def execTAcRun1Level2 (sign : Bool) (s : State) : Outcome := acRow .acn 7 1 2 sign s
def execTAcRun5Level1 (sign : Bool) (s : State) : Outcome := acRow .acn 7 5 1 sign s
def execTAcRun6Level1 (sign : Bool) (s : State) : Outcome := acRow .acn 7 6 1 sign s
def execTAcRun7Level1 (sign : Bool) (s : State) : Outcome := acRow .acn 7 7 1 sign s
def execTAcRun0Level4 (sign : Bool) (s : State) : Outcome := acRow .acn 8 0 4 sign s
def execTAcRun2Level2 (sign : Bool) (s : State) : Outcome := acRow .acn 8 2 2 sign s
def execTAcRun8Level1 (sign : Bool) (s : State) : Outcome := acRow .acn 8 8 1 sign s
def execTAcRun9Level1 (sign : Bool) (s : State) : Outcome := acRow .acn 8 9 1 sign s
def execTAcRun0Level5 (sign : Bool) (s : State) : Outcome := acRow .acn 9 0 5 sign s
def execTAcRun0Level6 (sign : Bool) (s : State) : Outcome := acRow .acn 9 0 6 sign s
def execTAcRun1Level3 (sign : Bool) (s : State) : Outcome := acRow .acn 9 1 3 sign s
def execTAcRun3Level2 (sign : Bool) (s : State) : Outcome := acRow .acn 9 3 2 sign s
def execTAcRun10Level1 (sign : Bool) (s : State) : Outcome := acRow .acn 9 10 1 sign s
def execTAcRun11Level1 (sign : Bool) (s : State) : Outcome := acRow .acn 9 11 1 sign s
def execTAcRun12Level1 (sign : Bool) (s : State) : Outcome := acRow .acn 9 12 1 sign s
def execTAcRun13Level1 (sign : Bool) (s : State) : Outcome := acRow .acn 9 13 1 sign s
def execTAcRun0Level7 (sign : Bool) (s : State) : Outcome := acRow .acn 11 0 7 sign s
def execTAcRun1Level4 (sign : Bool) (s : State) : Outcome := acRow .acn 11 1 4 sign s
def execTAcRun2Level3 (sign : Bool) (s : State) : Outcome := acRow .acn 11 2 3 sign s
def execTAcRun4Level2 (sign : Bool) (s : State) : Outcome := acRow .acn 11 4 2 sign s
def execTAcRun5Level2 (sign : Bool) (s : State) : Outcome := acRow .acn 11 5 2 sign s
def execTAcRun14Level1 (sign : Bool) (s : State) : Outcome := acRow .acn 11 14 1 sign s
def execTAcRun15Level1 (sign : Bool) (s : State) : Outcome := acRow .acn 11 15 1 sign s
def execTAcRun16Level1 (sign : Bool) (s : State) : Outcome := acRow .acn 11 16 1 sign s
def execTAcRun0Level8 (sign : Bool) (s : State) : Outcome := acRow .acn 13 0 8 sign s
def execTAcRun0Level9 (sign : Bool) (s : State) : Outcome := acRow .acn 13 0 9 sign s
def execTAcRun0Level10 (sign : Bool) (s : State) : Outcome := acRow .acn 13 0 10 sign s
def execTAcRun0Level11 (sign : Bool) (s : State) : Outcome := acRow .acn 13 0 11 sign s
def execTAcRun1Level5 (sign : Bool) (s : State) : Outcome := acRow .acn 13 1 5 sign s
def execTAcRun2Level4 (sign : Bool) (s : State) : Outcome := acRow .acn 13 2 4 sign s
def execTAcRun3Level3 (sign : Bool) (s : State) : Outcome := acRow .acn 13 3 3 sign s
def execTAcRun4Level3 (sign : Bool) (s : State) : Outcome := acRow .acn 13 4 3 sign s
def execTAcRun6Level2 (sign : Bool) (s : State) : Outcome := acRow .acn 13 6 2 sign s
def execTAcRun7Level2 (sign : Bool) (s : State) : Outcome := acRow .acn 13 7 2 sign s
def execTAcRun8Level2 (sign : Bool) (s : State) : Outcome := acRow .acn 13 8 2 sign s
def execTAcRun17Level1 (sign : Bool) (s : State) : Outcome := acRow .acn 13 17 1 sign s
def execTAcRun18Level1 (sign : Bool) (s : State) : Outcome := acRow .acn 13 18 1 sign s
def execTAcRun19Level1 (sign : Bool) (s : State) : Outcome := acRow .acn 13 19 1 sign s
def execTAcRun20Level1 (sign : Bool) (s : State) : Outcome := acRow .acn 13 20 1 sign s
def execTAcRun21Level1 (sign : Bool) (s : State) : Outcome := acRow .acn 13 21 1 sign s
def execTAcRun0Level12 (sign : Bool) (s : State) : Outcome := acRow .acn 14 0 12 sign s
def execTAcRun0Level13 (sign : Bool) (s : State) : Outcome := acRow .acn 14 0 13 sign s
def execTAcRun0Level14 (sign : Bool) (s : State) : Outcome := acRow .acn 14 0 14 sign s
def execTAcRun0Level15 (sign : Bool) (s : State) : Outcome := acRow .acn 14 0 15 sign s
def execTAcRun1Level6 (sign : Bool) (s : State) : Outcome := acRow .acn 14 1 6 sign s
def execTAcRun1Level7 (sign : Bool) (s : State) : Outcome := acRow .acn 14 1 7 sign s
def execTAcRun2Level5 (sign : Bool) (s : State) : Outcome := acRow .acn 14 2 5 sign s
def execTAcRun3Level4 (sign : Bool) (s : State) : Outcome := acRow .acn 14 3 4 sign s
def execTAcRun5Level3 (sign : Bool) (s : State) : Outcome := acRow .acn 14 5 3 sign s
def execTAcRun9Level2 (sign : Bool) (s : State) : Outcome := acRow .acn 14 9 2 sign s
def execTAcRun10Level2 (sign : Bool) (s : State) : Outcome := acRow .acn 14 10 2 sign s
def execTAcRun22Level1 (sign : Bool) (s : State) : Outcome := acRow .acn 14 22 1 sign s
def execTAcRun23Level1 (sign : Bool) (s : State) : Outcome := acRow .acn 14 23 1 sign s
def execTAcRun24Level1 (sign : Bool) (s : State) : Outcome := acRow .acn 14 24 1 sign s
def execTAcRun25Level1 (sign : Bool) (s : State) : Outcome := acRow .acn 14 25 1 sign s
def execTAcRun26Level1 (sign : Bool) (s : State) : Outcome := acRow .acn 14 26 1 sign s
def execTAcRun0Level16 (sign : Bool) (s : State) : Outcome := acRow .acn 15 0 16 sign s
def execTAcRun0Level17 (sign : Bool) (s : State) : Outcome := acRow .acn 15 0 17 sign s
def execTAcRun0Level18 (sign : Bool) (s : State) : Outcome := acRow .acn 15 0 18 sign s
def execTAcRun0Level19 (sign : Bool) (s : State) : Outcome := acRow .acn 15 0 19 sign s
def execTAcRun0Level20 (sign : Bool) (s : State) : Outcome := acRow .acn 15 0 20 sign s
def execTAcRun0Level21 (sign : Bool) (s : State) : Outcome := acRow .acn 15 0 21 sign s
def execTAcRun0Level22 (sign : Bool) (s : State) : Outcome := acRow .acn 15 0 22 sign s
def execTAcRun0Level23 (sign : Bool) (s : State) : Outcome := acRow .acn 15 0 23 sign s
def execTAcRun0Level24 (sign : Bool) (s : State) : Outcome := acRow .acn 15 0 24 sign s
def execTAcRun0Level25 (sign : Bool) (s : State) : Outcome := acRow .acn 15 0 25 sign s
def execTAcRun0Level26 (sign : Bool) (s : State) : Outcome := acRow .acn 15 0 26 sign s
def execTAcRun0Level27 (sign : Bool) (s : State) : Outcome := acRow .acn 15 0 27 sign s
def execTAcRun0Level28 (sign : Bool) (s : State) : Outcome := acRow .acn 15 0 28 sign s
def execTAcRun0Level29 (sign : Bool) (s : State) : Outcome := acRow .acn 15 0 29 sign s
def execTAcRun0Level30 (sign : Bool) (s : State) : Outcome := acRow .acn 15 0 30 sign s
def execTAcRun0Level31 (sign : Bool) (s : State) : Outcome := acRow .acn 15 0 31 sign s
def execTAcRun0Level32 (sign : Bool) (s : State) : Outcome := acRow .acn 16 0 32 sign s
def execTAcRun0Level33 (sign : Bool) (s : State) : Outcome := acRow .acn 16 0 33 sign s
def execTAcRun0Level34 (sign : Bool) (s : State) : Outcome := acRow .acn 16 0 34 sign s
def execTAcRun0Level35 (sign : Bool) (s : State) : Outcome := acRow .acn 16 0 35 sign s
def execTAcRun0Level36 (sign : Bool) (s : State) : Outcome := acRow .acn 16 0 36 sign s
def execTAcRun0Level37 (sign : Bool) (s : State) : Outcome := acRow .acn 16 0 37 sign s
def execTAcRun0Level38 (sign : Bool) (s : State) : Outcome := acRow .acn 16 0 38 sign s
def execTAcRun0Level39 (sign : Bool) (s : State) : Outcome := acRow .acn 16 0 39 sign s
def execTAcRun0Level40 (sign : Bool) (s : State) : Outcome := acRow .acn 16 0 40 sign s
def execTAcRun1Level8 (sign : Bool) (s : State) : Outcome := acRow .acn 16 1 8 sign s
def execTAcRun1Level9 (sign : Bool) (s : State) : Outcome := acRow .acn 16 1 9 sign s
def execTAcRun1Level10 (sign : Bool) (s : State) : Outcome := acRow .acn 16 1 10 sign s
def execTAcRun1Level11 (sign : Bool) (s : State) : Outcome := acRow .acn 16 1 11 sign s
def execTAcRun1Level12 (sign : Bool) (s : State) : Outcome := acRow .acn 16 1 12 sign s
def execTAcRun1Level13 (sign : Bool) (s : State) : Outcome := acRow .acn 16 1 13 sign s
def execTAcRun1Level14 (sign : Bool) (s : State) : Outcome := acRow .acn 16 1 14 sign s
def execTAcRun1Level15 (sign : Bool) (s : State) : Outcome := acRow .acn 17 1 15 sign s
def execTAcRun1Level16 (sign : Bool) (s : State) : Outcome := acRow .acn 17 1 16 sign s
def execTAcRun1Level17 (sign : Bool) (s : State) : Outcome := acRow .acn 17 1 17 sign s
def execTAcRun1Level18 (sign : Bool) (s : State) : Outcome := acRow .acn 17 1 18 sign s
def execTAcRun6Level3 (sign : Bool) (s : State) : Outcome := acRow .acn 17 6 3 sign s
def execTAcRun11Level2 (sign : Bool) (s : State) : Outcome := acRow .acn 17 11 2 sign s
def execTAcRun12Level2 (sign : Bool) (s : State) : Outcome := acRow .acn 17 12 2 sign s
def execTAcRun13Level2 (sign : Bool) (s : State) : Outcome := acRow .acn 17 13 2 sign s
def execTAcRun14Level2 (sign : Bool) (s : State) : Outcome := acRow .acn 17 14 2 sign s
def execTAcRun15Level2 (sign : Bool) (s : State) : Outcome := acRow .acn 17 15 2 sign s
def execTAcRun16Level2 (sign : Bool) (s : State) : Outcome := acRow .acn 17 16 2 sign s
def execTAcRun27Level1 (sign : Bool) (s : State) : Outcome := acRow .acn 17 27 1 sign s
def execTAcRun28Level1 (sign : Bool) (s : State) : Outcome := acRow .acn 17 28 1 sign s
def execTAcRun29Level1 (sign : Bool) (s : State) : Outcome := acRow .acn 17 29 1 sign s
def execTAcRun30Level1 (sign : Bool) (s : State) : Outcome := acRow .acn 17 30 1 sign s
def execTAcRun31Level1 (sign : Bool) (s : State) : Outcome := acRow .acn 17 31 1 sign s

/-! ### T_ACF -/

def execTAcfRun0Level1First (sign : Bool) (s : State) : Outcome := acRow .acf 2 0 1 sign s

/-! ### T_ACN -/

/-- End of block: 2 bits, run and level 0 (41_vld_block.md R144). -/
def execTAcnEndOfBlock (s : State) : Outcome := codeword .acn 2 (respond (.ac true false 0 0)) s
def execTAcnRun0Level1Next (sign : Bool) (s : State) : Outcome := acRow .acn 3 0 1 sign s

/-! ### AC escape -/

def execTAcEscapeShort (run : BitVec 6) (lv : BitVec 8) (s : State) : Outcome :=
  codeword .acn 6 (takeFields [6, 8] (escapeFinish Config.escForbidden run (escapeLevelShort lv) false)) s
def execTAcEscapeLongPos (run : BitVec 6) (m : BitVec 8) (s : State) : Outcome :=
  codeword .acn 6 (takeFields [6, 8, 8] (escapeFinish Config.escForbidden run (escapeLevelPos m) (forbiddenPos m))) s
def execTAcEscapeLongNeg (run : BitVec 6) (m : BitVec 8) (s : State) : Outcome :=
  codeword .acn 6 (takeFields [6, 8, 8] (escapeFinish Config.escForbidden run (escapeLevelNeg m) (forbiddenNeg m))) s

/-! ### DC_DIFF -/

def execDcDiffSize1 (d : BitVec 1) (s : State) : Outcome := dcDiffRow 1 d.toNat s
def execDcDiffSize2 (d : BitVec 2) (s : State) : Outcome := dcDiffRow 2 d.toNat s
def execDcDiffSize3 (d : BitVec 3) (s : State) : Outcome := dcDiffRow 3 d.toNat s
def execDcDiffSize4 (d : BitVec 4) (s : State) : Outcome := dcDiffRow 4 d.toNat s
def execDcDiffSize5 (d : BitVec 5) (s : State) : Outcome := dcDiffRow 5 d.toNat s
def execDcDiffSize6 (d : BitVec 6) (s : State) : Outcome := dcDiffRow 6 d.toNat s
def execDcDiffSize7 (d : BitVec 7) (s : State) : Outcome := dcDiffRow 7 d.toNat s
def execDcDiffSize8 (d : BitVec 8) (s : State) : Outcome := dcDiffRow 8 d.toNat s

end Sys2Proof.Machine
end

