-- ==== Sys2Proof/Machine/CodewordsMacroblock.lean ====
section
/-! DEFINITION. The meanings of the codewords of the macroblock layer: the rows of `T_MBA`, `T_MBT_*`, `T_MV`, `T_CBP`
(30_encoding.md R89 to R95). -/

namespace Sys2Proof.Machine

/-- An increment code: the command ends with the running increment plus `v` (40_vld_macroblock.md R121). -/
def mbaIncrement (len v : Nat) (s : State) : Outcome :=
  codewordThen .mba len
    (fun t => withinIncr Config.incrW (t.acc + v) (.next (respond (.mba (t.acc + v)) { t with acc := 0 }))) s

/-- A macroblock-type code: the command ends with the row's five flags (40_vld_macroblock.md R122 to R125). -/
def mbtRow (t : Table) (len : Nat) (flags : TypeFlags) (s : State) : Outcome :=
  codeword t len (respond (.mbt flags)) s

/-- A motion code: the command ends with its value (40_vld_macroblock.md R126). -/
def mvRow (len : Nat) (c : Int) (s : State) : Outcome :=
  codeword .mv len (respond (.mv c)) s

/-- A coded-block-pattern code: the command ends with its value (40_vld_macroblock.md R127). -/
def cbpRow (len : Nat) (v : BitVec 6) (s : State) : Outcome :=
  codeword .cbp len (respond (.cbp v)) s

/-! ### T_MBA -/

def execTMbaIncr1 (s : State) : Outcome := mbaIncrement 1 1 s
def execTMbaIncr2 (s : State) : Outcome := mbaIncrement 3 2 s
def execTMbaIncr3 (s : State) : Outcome := mbaIncrement 3 3 s
def execTMbaIncr4 (s : State) : Outcome := mbaIncrement 4 4 s
def execTMbaIncr5 (s : State) : Outcome := mbaIncrement 4 5 s
def execTMbaIncr6 (s : State) : Outcome := mbaIncrement 5 6 s
def execTMbaIncr7 (s : State) : Outcome := mbaIncrement 5 7 s
def execTMbaIncr8 (s : State) : Outcome := mbaIncrement 7 8 s
def execTMbaIncr9 (s : State) : Outcome := mbaIncrement 7 9 s
def execTMbaIncr10 (s : State) : Outcome := mbaIncrement 8 10 s
def execTMbaIncr11 (s : State) : Outcome := mbaIncrement 8 11 s
def execTMbaIncr12 (s : State) : Outcome := mbaIncrement 8 12 s
def execTMbaIncr13 (s : State) : Outcome := mbaIncrement 8 13 s
def execTMbaIncr14 (s : State) : Outcome := mbaIncrement 8 14 s
def execTMbaIncr15 (s : State) : Outcome := mbaIncrement 8 15 s
def execTMbaIncr16 (s : State) : Outcome := mbaIncrement 10 16 s
def execTMbaIncr17 (s : State) : Outcome := mbaIncrement 10 17 s
def execTMbaIncr18 (s : State) : Outcome := mbaIncrement 10 18 s
def execTMbaIncr19 (s : State) : Outcome := mbaIncrement 10 19 s
def execTMbaIncr20 (s : State) : Outcome := mbaIncrement 10 20 s
def execTMbaIncr21 (s : State) : Outcome := mbaIncrement 10 21 s
def execTMbaIncr22 (s : State) : Outcome := mbaIncrement 11 22 s
def execTMbaIncr23 (s : State) : Outcome := mbaIncrement 11 23 s
def execTMbaIncr24 (s : State) : Outcome := mbaIncrement 11 24 s
def execTMbaIncr25 (s : State) : Outcome := mbaIncrement 11 25 s
def execTMbaIncr26 (s : State) : Outcome := mbaIncrement 11 26 s
def execTMbaIncr27 (s : State) : Outcome := mbaIncrement 11 27 s
def execTMbaIncr28 (s : State) : Outcome := mbaIncrement 11 28 s
def execTMbaIncr29 (s : State) : Outcome := mbaIncrement 11 29 s
def execTMbaIncr30 (s : State) : Outcome := mbaIncrement 11 30 s
def execTMbaIncr31 (s : State) : Outcome := mbaIncrement 11 31 s
def execTMbaIncr32 (s : State) : Outcome := mbaIncrement 11 32 s
def execTMbaIncr33 (s : State) : Outcome := mbaIncrement 11 33 s

/-- Macroblock stuffing: 11 bits discarded, no output; the command goes on (R89, R121). -/
def execTMbaStuffing (s : State) : Outcome := codeword .mba 11 id s

/-- Macroblock escape: 11 bits discarded, 33 added to the running increment; the command goes on (R89, R121). -/
def execTMbaEscape (s : State) : Outcome := codewordThen .mba 11 (fun t => withinIncr Config.incrW (t.acc + 33) (.next { t with acc := t.acc + 33 })) s

/-! ### T_MBT_I -/

def execTMbtIQ0f0b0p0i1 (s : State) : Outcome := mbtRow .mbtI 1 (typeFlags false false false false true) s
def execTMbtIQ1f0b0p0i1 (s : State) : Outcome := mbtRow .mbtI 2 (typeFlags true false false false true) s

/-! ### T_MBT_P -/

def execTMbtPQ0f1b0p1i0 (s : State) : Outcome := mbtRow .mbtP 1 (typeFlags false true false true false) s
def execTMbtPQ0f0b0p1i0 (s : State) : Outcome := mbtRow .mbtP 2 (typeFlags false false false true false) s
def execTMbtPQ0f1b0p0i0 (s : State) : Outcome := mbtRow .mbtP 3 (typeFlags false true false false false) s
def execTMbtPQ0f0b0p0i1 (s : State) : Outcome := mbtRow .mbtP 5 (typeFlags false false false false true) s
def execTMbtPQ1f1b0p1i0 (s : State) : Outcome := mbtRow .mbtP 5 (typeFlags true true false true false) s
def execTMbtPQ1f0b0p1i0 (s : State) : Outcome := mbtRow .mbtP 5 (typeFlags true false false true false) s
def execTMbtPQ1f0b0p0i1 (s : State) : Outcome := mbtRow .mbtP 6 (typeFlags true false false false true) s

/-! ### T_MBT_B -/

def execTMbtBQ0f1b1p0i0 (s : State) : Outcome := mbtRow .mbtB 2 (typeFlags false true true false false) s
def execTMbtBQ0f1b1p1i0 (s : State) : Outcome := mbtRow .mbtB 2 (typeFlags false true true true false) s
def execTMbtBQ0f0b1p0i0 (s : State) : Outcome := mbtRow .mbtB 3 (typeFlags false false true false false) s
def execTMbtBQ0f0b1p1i0 (s : State) : Outcome := mbtRow .mbtB 3 (typeFlags false false true true false) s
def execTMbtBQ0f1b0p0i0 (s : State) : Outcome := mbtRow .mbtB 4 (typeFlags false true false false false) s
def execTMbtBQ0f1b0p1i0 (s : State) : Outcome := mbtRow .mbtB 4 (typeFlags false true false true false) s
def execTMbtBQ0f0b0p0i1 (s : State) : Outcome := mbtRow .mbtB 5 (typeFlags false false false false true) s
def execTMbtBQ1f1b1p1i0 (s : State) : Outcome := mbtRow .mbtB 5 (typeFlags true true true true false) s
def execTMbtBQ1f1b0p1i0 (s : State) : Outcome := mbtRow .mbtB 6 (typeFlags true true false true false) s
def execTMbtBQ1f0b1p1i0 (s : State) : Outcome := mbtRow .mbtB 6 (typeFlags true false true true false) s
def execTMbtBQ1f0b0p0i1 (s : State) : Outcome := mbtRow .mbtB 6 (typeFlags true false false false true) s

/-! ### T_MBT_D -/

def execTMbtDQ0f0b0p0i1 (s : State) : Outcome := mbtRow .mbtD 1 (typeFlags false false false false true) s

/-! ### T_MV -/

def execTMvCode0 (s : State) : Outcome := mvRow 1 0 s
def execTMvCode1 (s : State) : Outcome := mvRow 3 1 s
def execTMvCodeM1 (s : State) : Outcome := mvRow 3 (-1) s
def execTMvCode2 (s : State) : Outcome := mvRow 4 2 s
def execTMvCodeM2 (s : State) : Outcome := mvRow 4 (-2) s
def execTMvCode3 (s : State) : Outcome := mvRow 5 3 s
def execTMvCodeM3 (s : State) : Outcome := mvRow 5 (-3) s
def execTMvCode4 (s : State) : Outcome := mvRow 7 4 s
def execTMvCodeM4 (s : State) : Outcome := mvRow 7 (-4) s
def execTMvCode5 (s : State) : Outcome := mvRow 8 5 s
def execTMvCodeM5 (s : State) : Outcome := mvRow 8 (-5) s
def execTMvCode6 (s : State) : Outcome := mvRow 8 6 s
def execTMvCodeM6 (s : State) : Outcome := mvRow 8 (-6) s
def execTMvCode7 (s : State) : Outcome := mvRow 8 7 s
def execTMvCodeM7 (s : State) : Outcome := mvRow 8 (-7) s
def execTMvCode8 (s : State) : Outcome := mvRow 10 8 s
def execTMvCodeM8 (s : State) : Outcome := mvRow 10 (-8) s
def execTMvCode9 (s : State) : Outcome := mvRow 10 9 s
def execTMvCodeM9 (s : State) : Outcome := mvRow 10 (-9) s
def execTMvCode10 (s : State) : Outcome := mvRow 10 10 s
def execTMvCodeM10 (s : State) : Outcome := mvRow 10 (-10) s
def execTMvCode11 (s : State) : Outcome := mvRow 11 11 s
def execTMvCodeM11 (s : State) : Outcome := mvRow 11 (-11) s
def execTMvCode12 (s : State) : Outcome := mvRow 11 12 s
def execTMvCodeM12 (s : State) : Outcome := mvRow 11 (-12) s
def execTMvCode13 (s : State) : Outcome := mvRow 11 13 s
def execTMvCodeM13 (s : State) : Outcome := mvRow 11 (-13) s
def execTMvCode14 (s : State) : Outcome := mvRow 11 14 s
def execTMvCodeM14 (s : State) : Outcome := mvRow 11 (-14) s
def execTMvCode15 (s : State) : Outcome := mvRow 11 15 s
def execTMvCodeM15 (s : State) : Outcome := mvRow 11 (-15) s
def execTMvCode16 (s : State) : Outcome := mvRow 11 16 s
def execTMvCodeM16 (s : State) : Outcome := mvRow 11 (-16) s

/-! ### T_CBP -/

def execTCbpCbp60 (s : State) : Outcome := cbpRow 3 60 s
def execTCbpCbp4 (s : State) : Outcome := cbpRow 4 4 s
def execTCbpCbp8 (s : State) : Outcome := cbpRow 4 8 s
def execTCbpCbp16 (s : State) : Outcome := cbpRow 4 16 s
def execTCbpCbp32 (s : State) : Outcome := cbpRow 4 32 s
def execTCbpCbp12 (s : State) : Outcome := cbpRow 5 12 s
def execTCbpCbp48 (s : State) : Outcome := cbpRow 5 48 s
def execTCbpCbp20 (s : State) : Outcome := cbpRow 5 20 s
def execTCbpCbp40 (s : State) : Outcome := cbpRow 5 40 s
def execTCbpCbp28 (s : State) : Outcome := cbpRow 5 28 s
def execTCbpCbp44 (s : State) : Outcome := cbpRow 5 44 s
def execTCbpCbp52 (s : State) : Outcome := cbpRow 5 52 s
def execTCbpCbp56 (s : State) : Outcome := cbpRow 5 56 s
def execTCbpCbp1 (s : State) : Outcome := cbpRow 5 1 s
def execTCbpCbp61 (s : State) : Outcome := cbpRow 5 61 s
def execTCbpCbp2 (s : State) : Outcome := cbpRow 5 2 s
def execTCbpCbp62 (s : State) : Outcome := cbpRow 5 62 s
def execTCbpCbp24 (s : State) : Outcome := cbpRow 6 24 s
def execTCbpCbp36 (s : State) : Outcome := cbpRow 6 36 s
def execTCbpCbp3 (s : State) : Outcome := cbpRow 6 3 s
def execTCbpCbp63 (s : State) : Outcome := cbpRow 6 63 s
def execTCbpCbp5 (s : State) : Outcome := cbpRow 7 5 s
def execTCbpCbp9 (s : State) : Outcome := cbpRow 7 9 s
def execTCbpCbp17 (s : State) : Outcome := cbpRow 7 17 s
def execTCbpCbp33 (s : State) : Outcome := cbpRow 7 33 s
def execTCbpCbp6 (s : State) : Outcome := cbpRow 7 6 s
def execTCbpCbp10 (s : State) : Outcome := cbpRow 7 10 s
def execTCbpCbp18 (s : State) : Outcome := cbpRow 7 18 s
def execTCbpCbp34 (s : State) : Outcome := cbpRow 7 34 s
def execTCbpCbp7 (s : State) : Outcome := cbpRow 8 7 s
def execTCbpCbp11 (s : State) : Outcome := cbpRow 8 11 s
def execTCbpCbp19 (s : State) : Outcome := cbpRow 8 19 s
def execTCbpCbp35 (s : State) : Outcome := cbpRow 8 35 s
def execTCbpCbp13 (s : State) : Outcome := cbpRow 8 13 s
def execTCbpCbp49 (s : State) : Outcome := cbpRow 8 49 s
def execTCbpCbp21 (s : State) : Outcome := cbpRow 8 21 s
def execTCbpCbp41 (s : State) : Outcome := cbpRow 8 41 s
def execTCbpCbp14 (s : State) : Outcome := cbpRow 8 14 s
def execTCbpCbp50 (s : State) : Outcome := cbpRow 8 50 s
def execTCbpCbp22 (s : State) : Outcome := cbpRow 8 22 s
def execTCbpCbp42 (s : State) : Outcome := cbpRow 8 42 s
def execTCbpCbp15 (s : State) : Outcome := cbpRow 8 15 s
def execTCbpCbp51 (s : State) : Outcome := cbpRow 8 51 s
def execTCbpCbp23 (s : State) : Outcome := cbpRow 8 23 s
def execTCbpCbp43 (s : State) : Outcome := cbpRow 8 43 s
def execTCbpCbp25 (s : State) : Outcome := cbpRow 8 25 s
def execTCbpCbp37 (s : State) : Outcome := cbpRow 8 37 s
def execTCbpCbp26 (s : State) : Outcome := cbpRow 8 26 s
def execTCbpCbp38 (s : State) : Outcome := cbpRow 8 38 s
def execTCbpCbp29 (s : State) : Outcome := cbpRow 8 29 s
def execTCbpCbp45 (s : State) : Outcome := cbpRow 8 45 s
def execTCbpCbp53 (s : State) : Outcome := cbpRow 8 53 s
def execTCbpCbp57 (s : State) : Outcome := cbpRow 8 57 s
def execTCbpCbp30 (s : State) : Outcome := cbpRow 8 30 s
def execTCbpCbp46 (s : State) : Outcome := cbpRow 8 46 s
def execTCbpCbp54 (s : State) : Outcome := cbpRow 8 54 s
def execTCbpCbp58 (s : State) : Outcome := cbpRow 8 58 s
def execTCbpCbp31 (s : State) : Outcome := cbpRow 9 31 s
def execTCbpCbp47 (s : State) : Outcome := cbpRow 9 47 s
def execTCbpCbp55 (s : State) : Outcome := cbpRow 9 55 s
def execTCbpCbp59 (s : State) : Outcome := cbpRow 9 59 s
def execTCbpCbp27 (s : State) : Outcome := cbpRow 9 27 s
def execTCbpCbp39 (s : State) : Outcome := cbpRow 9 39 s

end Sys2Proof.Machine
end

