-- ==== Sys2Proof/Machine/Vld.lean ====
section
/-! DEFINITION. The VLD commands (40_vld_macroblock.md, 41_vld_block.md): each reads the stream with its table and runs the
row it finds. -/

namespace Sys2Proof.Machine

/-- The meaning of a table row the look-up has found. Only rows of the code tables are ever found; for any other
instruction no row matched, which is `InvalidVlcCode` (30_encoding.md R88). -/
def runRow (i : Instr) (s : State) : Outcome :=
  match i with
  | .tMbaIncr1 => execTMbaIncr1 s
  | .tMbaIncr2 => execTMbaIncr2 s
  | .tMbaIncr3 => execTMbaIncr3 s
  | .tMbaIncr4 => execTMbaIncr4 s
  | .tMbaIncr5 => execTMbaIncr5 s
  | .tMbaIncr6 => execTMbaIncr6 s
  | .tMbaIncr7 => execTMbaIncr7 s
  | .tMbaIncr8 => execTMbaIncr8 s
  | .tMbaIncr9 => execTMbaIncr9 s
  | .tMbaIncr10 => execTMbaIncr10 s
  | .tMbaIncr11 => execTMbaIncr11 s
  | .tMbaIncr12 => execTMbaIncr12 s
  | .tMbaIncr13 => execTMbaIncr13 s
  | .tMbaIncr14 => execTMbaIncr14 s
  | .tMbaIncr15 => execTMbaIncr15 s
  | .tMbaIncr16 => execTMbaIncr16 s
  | .tMbaIncr17 => execTMbaIncr17 s
  | .tMbaIncr18 => execTMbaIncr18 s
  | .tMbaIncr19 => execTMbaIncr19 s
  | .tMbaIncr20 => execTMbaIncr20 s
  | .tMbaIncr21 => execTMbaIncr21 s
  | .tMbaIncr22 => execTMbaIncr22 s
  | .tMbaIncr23 => execTMbaIncr23 s
  | .tMbaIncr24 => execTMbaIncr24 s
  | .tMbaIncr25 => execTMbaIncr25 s
  | .tMbaIncr26 => execTMbaIncr26 s
  | .tMbaIncr27 => execTMbaIncr27 s
  | .tMbaIncr28 => execTMbaIncr28 s
  | .tMbaIncr29 => execTMbaIncr29 s
  | .tMbaIncr30 => execTMbaIncr30 s
  | .tMbaIncr31 => execTMbaIncr31 s
  | .tMbaIncr32 => execTMbaIncr32 s
  | .tMbaIncr33 => execTMbaIncr33 s
  | .tMbaStuffing => execTMbaStuffing s
  | .tMbaEscape => execTMbaEscape s
  | .tMbtIQ0f0b0p0i1 => execTMbtIQ0f0b0p0i1 s
  | .tMbtIQ1f0b0p0i1 => execTMbtIQ1f0b0p0i1 s
  | .tMbtPQ0f1b0p1i0 => execTMbtPQ0f1b0p1i0 s
  | .tMbtPQ0f0b0p1i0 => execTMbtPQ0f0b0p1i0 s
  | .tMbtPQ0f1b0p0i0 => execTMbtPQ0f1b0p0i0 s
  | .tMbtPQ0f0b0p0i1 => execTMbtPQ0f0b0p0i1 s
  | .tMbtPQ1f1b0p1i0 => execTMbtPQ1f1b0p1i0 s
  | .tMbtPQ1f0b0p1i0 => execTMbtPQ1f0b0p1i0 s
  | .tMbtPQ1f0b0p0i1 => execTMbtPQ1f0b0p0i1 s
  | .tMbtBQ0f1b1p0i0 => execTMbtBQ0f1b1p0i0 s
  | .tMbtBQ0f1b1p1i0 => execTMbtBQ0f1b1p1i0 s
  | .tMbtBQ0f0b1p0i0 => execTMbtBQ0f0b1p0i0 s
  | .tMbtBQ0f0b1p1i0 => execTMbtBQ0f0b1p1i0 s
  | .tMbtBQ0f1b0p0i0 => execTMbtBQ0f1b0p0i0 s
  | .tMbtBQ0f1b0p1i0 => execTMbtBQ0f1b0p1i0 s
  | .tMbtBQ0f0b0p0i1 => execTMbtBQ0f0b0p0i1 s
  | .tMbtBQ1f1b1p1i0 => execTMbtBQ1f1b1p1i0 s
  | .tMbtBQ1f1b0p1i0 => execTMbtBQ1f1b0p1i0 s
  | .tMbtBQ1f0b1p1i0 => execTMbtBQ1f0b1p1i0 s
  | .tMbtBQ1f0b0p0i1 => execTMbtBQ1f0b0p0i1 s
  | .tMbtDQ0f0b0p0i1 => execTMbtDQ0f0b0p0i1 s
  | .tMvCode0 => execTMvCode0 s
  | .tMvCode1 => execTMvCode1 s
  | .tMvCodeM1 => execTMvCodeM1 s
  | .tMvCode2 => execTMvCode2 s
  | .tMvCodeM2 => execTMvCodeM2 s
  | .tMvCode3 => execTMvCode3 s
  | .tMvCodeM3 => execTMvCodeM3 s
  | .tMvCode4 => execTMvCode4 s
  | .tMvCodeM4 => execTMvCodeM4 s
  | .tMvCode5 => execTMvCode5 s
  | .tMvCodeM5 => execTMvCodeM5 s
  | .tMvCode6 => execTMvCode6 s
  | .tMvCodeM6 => execTMvCodeM6 s
  | .tMvCode7 => execTMvCode7 s
  | .tMvCodeM7 => execTMvCodeM7 s
  | .tMvCode8 => execTMvCode8 s
  | .tMvCodeM8 => execTMvCodeM8 s
  | .tMvCode9 => execTMvCode9 s
  | .tMvCodeM9 => execTMvCodeM9 s
  | .tMvCode10 => execTMvCode10 s
  | .tMvCodeM10 => execTMvCodeM10 s
  | .tMvCode11 => execTMvCode11 s
  | .tMvCodeM11 => execTMvCodeM11 s
  | .tMvCode12 => execTMvCode12 s
  | .tMvCodeM12 => execTMvCodeM12 s
  | .tMvCode13 => execTMvCode13 s
  | .tMvCodeM13 => execTMvCodeM13 s
  | .tMvCode14 => execTMvCode14 s
  | .tMvCodeM14 => execTMvCodeM14 s
  | .tMvCode15 => execTMvCode15 s
  | .tMvCodeM15 => execTMvCodeM15 s
  | .tMvCode16 => execTMvCode16 s
  | .tMvCodeM16 => execTMvCodeM16 s
  | .tCbpCbp60 => execTCbpCbp60 s
  | .tCbpCbp4 => execTCbpCbp4 s
  | .tCbpCbp8 => execTCbpCbp8 s
  | .tCbpCbp16 => execTCbpCbp16 s
  | .tCbpCbp32 => execTCbpCbp32 s
  | .tCbpCbp12 => execTCbpCbp12 s
  | .tCbpCbp48 => execTCbpCbp48 s
  | .tCbpCbp20 => execTCbpCbp20 s
  | .tCbpCbp40 => execTCbpCbp40 s
  | .tCbpCbp28 => execTCbpCbp28 s
  | .tCbpCbp44 => execTCbpCbp44 s
  | .tCbpCbp52 => execTCbpCbp52 s
  | .tCbpCbp56 => execTCbpCbp56 s
  | .tCbpCbp1 => execTCbpCbp1 s
  | .tCbpCbp61 => execTCbpCbp61 s
  | .tCbpCbp2 => execTCbpCbp2 s
  | .tCbpCbp62 => execTCbpCbp62 s
  | .tCbpCbp24 => execTCbpCbp24 s
  | .tCbpCbp36 => execTCbpCbp36 s
  | .tCbpCbp3 => execTCbpCbp3 s
  | .tCbpCbp63 => execTCbpCbp63 s
  | .tCbpCbp5 => execTCbpCbp5 s
  | .tCbpCbp9 => execTCbpCbp9 s
  | .tCbpCbp17 => execTCbpCbp17 s
  | .tCbpCbp33 => execTCbpCbp33 s
  | .tCbpCbp6 => execTCbpCbp6 s
  | .tCbpCbp10 => execTCbpCbp10 s
  | .tCbpCbp18 => execTCbpCbp18 s
  | .tCbpCbp34 => execTCbpCbp34 s
  | .tCbpCbp7 => execTCbpCbp7 s
  | .tCbpCbp11 => execTCbpCbp11 s
  | .tCbpCbp19 => execTCbpCbp19 s
  | .tCbpCbp35 => execTCbpCbp35 s
  | .tCbpCbp13 => execTCbpCbp13 s
  | .tCbpCbp49 => execTCbpCbp49 s
  | .tCbpCbp21 => execTCbpCbp21 s
  | .tCbpCbp41 => execTCbpCbp41 s
  | .tCbpCbp14 => execTCbpCbp14 s
  | .tCbpCbp50 => execTCbpCbp50 s
  | .tCbpCbp22 => execTCbpCbp22 s
  | .tCbpCbp42 => execTCbpCbp42 s
  | .tCbpCbp15 => execTCbpCbp15 s
  | .tCbpCbp51 => execTCbpCbp51 s
  | .tCbpCbp23 => execTCbpCbp23 s
  | .tCbpCbp43 => execTCbpCbp43 s
  | .tCbpCbp25 => execTCbpCbp25 s
  | .tCbpCbp37 => execTCbpCbp37 s
  | .tCbpCbp26 => execTCbpCbp26 s
  | .tCbpCbp38 => execTCbpCbp38 s
  | .tCbpCbp29 => execTCbpCbp29 s
  | .tCbpCbp45 => execTCbpCbp45 s
  | .tCbpCbp53 => execTCbpCbp53 s
  | .tCbpCbp57 => execTCbpCbp57 s
  | .tCbpCbp30 => execTCbpCbp30 s
  | .tCbpCbp46 => execTCbpCbp46 s
  | .tCbpCbp54 => execTCbpCbp54 s
  | .tCbpCbp58 => execTCbpCbp58 s
  | .tCbpCbp31 => execTCbpCbp31 s
  | .tCbpCbp47 => execTCbpCbp47 s
  | .tCbpCbp55 => execTCbpCbp55 s
  | .tCbpCbp59 => execTCbpCbp59 s
  | .tCbpCbp27 => execTCbpCbp27 s
  | .tCbpCbp39 => execTCbpCbp39 s
  | .tDclSize0 => execTDclSize0 s
  | .tDclSize1 => execTDclSize1 s
  | .tDclSize2 => execTDclSize2 s
  | .tDclSize3 => execTDclSize3 s
  | .tDclSize4 => execTDclSize4 s
  | .tDclSize5 => execTDclSize5 s
  | .tDclSize6 => execTDclSize6 s
  | .tDclSize7 => execTDclSize7 s
  | .tDclSize8 => execTDclSize8 s
  | .tDccSize0 => execTDccSize0 s
  | .tDccSize1 => execTDccSize1 s
  | .tDccSize2 => execTDccSize2 s
  | .tDccSize3 => execTDccSize3 s
  | .tDccSize4 => execTDccSize4 s
  | .tDccSize5 => execTDccSize5 s
  | .tDccSize6 => execTDccSize6 s
  | .tDccSize7 => execTDccSize7 s
  | .tDccSize8 => execTDccSize8 s
  | .tAcRun1Level1 sign => execTAcRun1Level1 sign s
  | .tAcRun0Level2 sign => execTAcRun0Level2 sign s
  | .tAcRun2Level1 sign => execTAcRun2Level1 sign s
  | .tAcRun0Level3 sign => execTAcRun0Level3 sign s
  | .tAcRun3Level1 sign => execTAcRun3Level1 sign s
  | .tAcRun4Level1 sign => execTAcRun4Level1 sign s
  | .tAcRun1Level2 sign => execTAcRun1Level2 sign s
  | .tAcRun5Level1 sign => execTAcRun5Level1 sign s
  | .tAcRun6Level1 sign => execTAcRun6Level1 sign s
  | .tAcRun7Level1 sign => execTAcRun7Level1 sign s
  | .tAcRun0Level4 sign => execTAcRun0Level4 sign s
  | .tAcRun2Level2 sign => execTAcRun2Level2 sign s
  | .tAcRun8Level1 sign => execTAcRun8Level1 sign s
  | .tAcRun9Level1 sign => execTAcRun9Level1 sign s
  | .tAcRun0Level5 sign => execTAcRun0Level5 sign s
  | .tAcRun0Level6 sign => execTAcRun0Level6 sign s
  | .tAcRun1Level3 sign => execTAcRun1Level3 sign s
  | .tAcRun3Level2 sign => execTAcRun3Level2 sign s
  | .tAcRun10Level1 sign => execTAcRun10Level1 sign s
  | .tAcRun11Level1 sign => execTAcRun11Level1 sign s
  | .tAcRun12Level1 sign => execTAcRun12Level1 sign s
  | .tAcRun13Level1 sign => execTAcRun13Level1 sign s
  | .tAcRun0Level7 sign => execTAcRun0Level7 sign s
  | .tAcRun1Level4 sign => execTAcRun1Level4 sign s
  | .tAcRun2Level3 sign => execTAcRun2Level3 sign s
  | .tAcRun4Level2 sign => execTAcRun4Level2 sign s
  | .tAcRun5Level2 sign => execTAcRun5Level2 sign s
  | .tAcRun14Level1 sign => execTAcRun14Level1 sign s
  | .tAcRun15Level1 sign => execTAcRun15Level1 sign s
  | .tAcRun16Level1 sign => execTAcRun16Level1 sign s
  | .tAcRun0Level8 sign => execTAcRun0Level8 sign s
  | .tAcRun0Level9 sign => execTAcRun0Level9 sign s
  | .tAcRun0Level10 sign => execTAcRun0Level10 sign s
  | .tAcRun0Level11 sign => execTAcRun0Level11 sign s
  | .tAcRun1Level5 sign => execTAcRun1Level5 sign s
  | .tAcRun2Level4 sign => execTAcRun2Level4 sign s
  | .tAcRun3Level3 sign => execTAcRun3Level3 sign s
  | .tAcRun4Level3 sign => execTAcRun4Level3 sign s
  | .tAcRun6Level2 sign => execTAcRun6Level2 sign s
  | .tAcRun7Level2 sign => execTAcRun7Level2 sign s
  | .tAcRun8Level2 sign => execTAcRun8Level2 sign s
  | .tAcRun17Level1 sign => execTAcRun17Level1 sign s
  | .tAcRun18Level1 sign => execTAcRun18Level1 sign s
  | .tAcRun19Level1 sign => execTAcRun19Level1 sign s
  | .tAcRun20Level1 sign => execTAcRun20Level1 sign s
  | .tAcRun21Level1 sign => execTAcRun21Level1 sign s
  | .tAcRun0Level12 sign => execTAcRun0Level12 sign s
  | .tAcRun0Level13 sign => execTAcRun0Level13 sign s
  | .tAcRun0Level14 sign => execTAcRun0Level14 sign s
  | .tAcRun0Level15 sign => execTAcRun0Level15 sign s
  | .tAcRun1Level6 sign => execTAcRun1Level6 sign s
  | .tAcRun1Level7 sign => execTAcRun1Level7 sign s
  | .tAcRun2Level5 sign => execTAcRun2Level5 sign s
  | .tAcRun3Level4 sign => execTAcRun3Level4 sign s
  | .tAcRun5Level3 sign => execTAcRun5Level3 sign s
  | .tAcRun9Level2 sign => execTAcRun9Level2 sign s
  | .tAcRun10Level2 sign => execTAcRun10Level2 sign s
  | .tAcRun22Level1 sign => execTAcRun22Level1 sign s
  | .tAcRun23Level1 sign => execTAcRun23Level1 sign s
  | .tAcRun24Level1 sign => execTAcRun24Level1 sign s
  | .tAcRun25Level1 sign => execTAcRun25Level1 sign s
  | .tAcRun26Level1 sign => execTAcRun26Level1 sign s
  | .tAcRun0Level16 sign => execTAcRun0Level16 sign s
  | .tAcRun0Level17 sign => execTAcRun0Level17 sign s
  | .tAcRun0Level18 sign => execTAcRun0Level18 sign s
  | .tAcRun0Level19 sign => execTAcRun0Level19 sign s
  | .tAcRun0Level20 sign => execTAcRun0Level20 sign s
  | .tAcRun0Level21 sign => execTAcRun0Level21 sign s
  | .tAcRun0Level22 sign => execTAcRun0Level22 sign s
  | .tAcRun0Level23 sign => execTAcRun0Level23 sign s
  | .tAcRun0Level24 sign => execTAcRun0Level24 sign s
  | .tAcRun0Level25 sign => execTAcRun0Level25 sign s
  | .tAcRun0Level26 sign => execTAcRun0Level26 sign s
  | .tAcRun0Level27 sign => execTAcRun0Level27 sign s
  | .tAcRun0Level28 sign => execTAcRun0Level28 sign s
  | .tAcRun0Level29 sign => execTAcRun0Level29 sign s
  | .tAcRun0Level30 sign => execTAcRun0Level30 sign s
  | .tAcRun0Level31 sign => execTAcRun0Level31 sign s
  | .tAcRun0Level32 sign => execTAcRun0Level32 sign s
  | .tAcRun0Level33 sign => execTAcRun0Level33 sign s
  | .tAcRun0Level34 sign => execTAcRun0Level34 sign s
  | .tAcRun0Level35 sign => execTAcRun0Level35 sign s
  | .tAcRun0Level36 sign => execTAcRun0Level36 sign s
  | .tAcRun0Level37 sign => execTAcRun0Level37 sign s
  | .tAcRun0Level38 sign => execTAcRun0Level38 sign s
  | .tAcRun0Level39 sign => execTAcRun0Level39 sign s
  | .tAcRun0Level40 sign => execTAcRun0Level40 sign s
  | .tAcRun1Level8 sign => execTAcRun1Level8 sign s
  | .tAcRun1Level9 sign => execTAcRun1Level9 sign s
  | .tAcRun1Level10 sign => execTAcRun1Level10 sign s
  | .tAcRun1Level11 sign => execTAcRun1Level11 sign s
  | .tAcRun1Level12 sign => execTAcRun1Level12 sign s
  | .tAcRun1Level13 sign => execTAcRun1Level13 sign s
  | .tAcRun1Level14 sign => execTAcRun1Level14 sign s
  | .tAcRun1Level15 sign => execTAcRun1Level15 sign s
  | .tAcRun1Level16 sign => execTAcRun1Level16 sign s
  | .tAcRun1Level17 sign => execTAcRun1Level17 sign s
  | .tAcRun1Level18 sign => execTAcRun1Level18 sign s
  | .tAcRun6Level3 sign => execTAcRun6Level3 sign s
  | .tAcRun11Level2 sign => execTAcRun11Level2 sign s
  | .tAcRun12Level2 sign => execTAcRun12Level2 sign s
  | .tAcRun13Level2 sign => execTAcRun13Level2 sign s
  | .tAcRun14Level2 sign => execTAcRun14Level2 sign s
  | .tAcRun15Level2 sign => execTAcRun15Level2 sign s
  | .tAcRun16Level2 sign => execTAcRun16Level2 sign s
  | .tAcRun27Level1 sign => execTAcRun27Level1 sign s
  | .tAcRun28Level1 sign => execTAcRun28Level1 sign s
  | .tAcRun29Level1 sign => execTAcRun29Level1 sign s
  | .tAcRun30Level1 sign => execTAcRun30Level1 sign s
  | .tAcRun31Level1 sign => execTAcRun31Level1 sign s
  | .tAcfRun0Level1First sign => execTAcfRun0Level1First sign s
  | .tAcnEndOfBlock => execTAcnEndOfBlock s
  | .tAcnRun0Level1Next sign => execTAcnRun0Level1Next sign s
  | .tAcEscapeShort run lv => execTAcEscapeShort run lv s
  | .tAcEscapeLongPos run m => execTAcEscapeLongPos run m s
  | .tAcEscapeLongNeg run m => execTAcEscapeLongNeg run m s
  | .nop | .vldMba | .vldMbtI | .vldMbtP | .vldMbtB | .vldMbtD | .vldMv | .vldCbp | .vldDcl | .vldDcc
  | .vldDcd _ | .vldAcf | .vldAcn | .mvrSetupF _ _ | .mvrSetupB _ _ | .mvrResetF | .mvrResetB
  | .mvrCalcF _ _ _ _ | .mvrCalcB _ _ _ _ | .cbWr _ _ | .cbRd _ | .idctBlk | .status | .dcDiffSize1 _
  | .dcDiffSize2 _ | .dcDiffSize3 _ | .dcDiffSize4 _ | .dcDiffSize5 _ | .dcDiffSize6 _ | .dcDiffSize7 _
  | .dcDiffSize8 _ | .mvResidualRSize1 _ | .mvResidualRSize2 _ | .mvResidualRSize3 _ | .mvResidualRSize4 _
  | .mvResidualRSize5 _ | .mvResidualRSize6 _ =>
    .next (raise .invalidVlcCode s)

/-- `EscapeBody()`: run, level byte, and after 0x00 or 0x80 a second level byte; what earlier reads consumed stays consumed
(41_vld_block.md R145, 20_memory.md R71). -/
def escapeBody (s : State) : State :=
  match bitRead 6 s with
  | none => raise .unexpectedEndOfStream s
  | some (run, s) =>
    match bitRead 8 s with
    | none => raise .unexpectedEndOfStream s
    | some (lv, s) =>
      if lv = 0x00 then
        match bitRead 8 s with
        | none => raise .unexpectedEndOfStream s
        | some (m, s) =>
          let m := BitVec.ofNat 8 m
          escapeFinish Config.escForbidden (BitVec.ofNat 6 run) (escapeLevelPos m) (forbiddenPos m) s
      else if lv = 0x80 then
        match bitRead 8 s with
        | none => raise .unexpectedEndOfStream s
        | some (m, s) =>
          let m := BitVec.ofNat 8 m
          escapeFinish Config.escForbidden (BitVec.ofNat 6 run) (escapeLevelNeg m) (forbiddenNeg m) s
      else
        escapeFinish Config.escForbidden (BitVec.ofNat 6 run) (escapeLevelShort (BitVec.ofNat 8 lv)) false s

/-- `VlcDecode(T, W)` and what follows it in the command (30_encoding.md R88): the end-of-stream test comes before the
look-up (60_exceptions.md R217 (4)); a window that matches no row consumes nothing. -/
def vlcDecode (t : Table) (s : State) : Outcome :=
  match bitPeek t.width s with
  | none => .next (raise .unexpectedEndOfStream s)
  | some w =>
    match lookup t w with
    | none => .next (raise .invalidVlcCode s)
    | some (_, .row i) => runRow i s
    | some (c, .escape) => .next (escapeBody (bitSkip c.length s))

/-- The loop of `VLD.MBA` (40_vld_macroblock.md R121): stuffing and escape codes are absorbed, then one increment code is
decoded. The first argument bounds the turns; each turn consumes 11 bits, so the length of the stream is enough. -/
def mbaLoop : Nat → State → Outcome
  | 0, s => .next (raise .unexpectedEndOfStream s)
  | turns + 1, s =>
    match bitPeek Table.mba.width s with
    | none => .next (raise .unexpectedEndOfStream s)
    | some w =>
      match lookup .mba w with
      | none => .next (raise .invalidVlcCode s)
      | some (_, .escape) => .next (raise .invalidVlcCode s)
      | some (_, .row i) =>
        match runRow i s with
        | .next t => if i = .tMbaStuffing ∨ i = .tMbaEscape then mbaLoop turns t else .next t
        | .fault e => .fault e
        | .refused e => .refused e

/-- The body of `VLD.DCD` (41_vld_block.md R142). -/
def dcdBody (size : Nat) (s : State) : Outcome :=
  if 8 < size then .next (raise .protocolError s)
  else if size = 0 then .next (respond (.dcDiff 0) s)
  else
    match bitRead size s with
    | none => .next (raise .unexpectedEndOfStream s)
    | some (raw, t) => .next (respond (.dcDiff (dcDiff size raw)) t)

/-- `VLD.MBA` (R121). -/
def execVldMba (s : State) : Outcome := command 0x01 (fun s => mbaLoop (s.bs.length + 1) s) s

/-- `VLD.MBT.I` (R122). -/
def execVldMbtI (s : State) : Outcome := command 0x02 (vlcDecode .mbtI) s

/-- `VLD.MBT.P` (R123). -/
def execVldMbtP (s : State) : Outcome := command 0x02 (vlcDecode .mbtP) s

/-- `VLD.MBT.B` (R124). -/
def execVldMbtB (s : State) : Outcome := command 0x02 (vlcDecode .mbtB) s

/-- `VLD.MBT.D` (R125). -/
def execVldMbtD (s : State) : Outcome := command 0x02 (vlcDecode .mbtD) s

/-- `VLD.MV` (R126). -/
def execVldMv (s : State) : Outcome := command 0x03 (vlcDecode .mv) s

/-- `VLD.CBP` (R127). -/
def execVldCbp (s : State) : Outcome := command 0x04 (vlcDecode .cbp) s

/-- `VLD.DCL` (R140). -/
def execVldDcl (s : State) : Outcome := command 0x05 (vlcDecode .dcl) s

/-- `VLD.DCC` (R141). -/
def execVldDcc (s : State) : Outcome := command 0x06 (vlcDecode .dcc) s

/-- `VLD.DCD` (R142). -/
def execVldDcd (size : BitVec 4) (s : State) : Outcome := command 0x07 (dcdBody size.toNat) s

/-- `VLD.ACF` (R143). -/
def execVldAcf (s : State) : Outcome := command 0x08 (vlcDecode .acf) s

/-- `VLD.ACN` (R144). -/
def execVldAcn (s : State) : Outcome := command 0x09 (vlcDecode .acn) s

end Sys2Proof.Machine
end

