-- ==== Sys2Proof/Machine/Dispatch.lean ====
section
/-! DEFINITION. The dispatch: one arm per constructor of `Instr`, each a call of that instruction's own meaning. -/

namespace Sys2Proof.Machine

def exec (i : Instr) (s : State) : Host.Outcome State Fault Refusal :=
  match i with
  | .nop => Sys2Proof.Machine.execNop s
  | .vldMba => Sys2Proof.Machine.execVldMba s
  | .vldMbtI => Sys2Proof.Machine.execVldMbtI s
  | .vldMbtP => Sys2Proof.Machine.execVldMbtP s
  | .vldMbtB => Sys2Proof.Machine.execVldMbtB s
  | .vldMbtD => Sys2Proof.Machine.execVldMbtD s
  | .vldMv => Sys2Proof.Machine.execVldMv s
  | .vldCbp => Sys2Proof.Machine.execVldCbp s
  | .vldDcl => Sys2Proof.Machine.execVldDcl s
  | .vldDcc => Sys2Proof.Machine.execVldDcc s
  | .vldDcd size => Sys2Proof.Machine.execVldDcd size s
  | .vldAcf => Sys2Proof.Machine.execVldAcf s
  | .vldAcn => Sys2Proof.Machine.execVldAcn s
  | .mvrSetupF fullPel fCode => Sys2Proof.Machine.execMvrSetupF fullPel fCode s
  | .mvrSetupB fullPel fCode => Sys2Proof.Machine.execMvrSetupB fullPel fCode s
  | .mvrResetF => Sys2Proof.Machine.execMvrResetF s
  | .mvrResetB => Sys2Proof.Machine.execMvrResetB s
  | .mvrCalcF codeH rH codeV rV => Sys2Proof.Machine.execMvrCalcF codeH rH codeV rV s
  | .mvrCalcB codeH rH codeV rV => Sys2Proof.Machine.execMvrCalcB codeH rH codeV rV s
  | .cbWr idx value => Sys2Proof.Machine.execCbWr idx value s
  | .cbRd idx => Sys2Proof.Machine.execCbRd idx s
  | .idctBlk => Sys2Proof.Machine.execIdctBlk s
  | .status => Sys2Proof.Machine.execStatus s
  | .tAcRun1Level1 sign => Sys2Proof.Machine.execTAcRun1Level1 sign s
  | .tAcRun0Level2 sign => Sys2Proof.Machine.execTAcRun0Level2 sign s
  | .tAcRun2Level1 sign => Sys2Proof.Machine.execTAcRun2Level1 sign s
  | .tAcRun0Level3 sign => Sys2Proof.Machine.execTAcRun0Level3 sign s
  | .tAcRun3Level1 sign => Sys2Proof.Machine.execTAcRun3Level1 sign s
  | .tAcRun4Level1 sign => Sys2Proof.Machine.execTAcRun4Level1 sign s
  | .tAcRun1Level2 sign => Sys2Proof.Machine.execTAcRun1Level2 sign s
  | .tAcRun5Level1 sign => Sys2Proof.Machine.execTAcRun5Level1 sign s
  | .tAcRun6Level1 sign => Sys2Proof.Machine.execTAcRun6Level1 sign s
  | .tAcRun7Level1 sign => Sys2Proof.Machine.execTAcRun7Level1 sign s
  | .tAcRun0Level4 sign => Sys2Proof.Machine.execTAcRun0Level4 sign s
  | .tAcRun2Level2 sign => Sys2Proof.Machine.execTAcRun2Level2 sign s
  | .tAcRun8Level1 sign => Sys2Proof.Machine.execTAcRun8Level1 sign s
  | .tAcRun9Level1 sign => Sys2Proof.Machine.execTAcRun9Level1 sign s
  | .tAcRun0Level5 sign => Sys2Proof.Machine.execTAcRun0Level5 sign s
  | .tAcRun0Level6 sign => Sys2Proof.Machine.execTAcRun0Level6 sign s
  | .tAcRun1Level3 sign => Sys2Proof.Machine.execTAcRun1Level3 sign s
  | .tAcRun3Level2 sign => Sys2Proof.Machine.execTAcRun3Level2 sign s
  | .tAcRun10Level1 sign => Sys2Proof.Machine.execTAcRun10Level1 sign s
  | .tAcRun11Level1 sign => Sys2Proof.Machine.execTAcRun11Level1 sign s
  | .tAcRun12Level1 sign => Sys2Proof.Machine.execTAcRun12Level1 sign s
  | .tAcRun13Level1 sign => Sys2Proof.Machine.execTAcRun13Level1 sign s
  | .tAcRun0Level7 sign => Sys2Proof.Machine.execTAcRun0Level7 sign s
  | .tAcRun1Level4 sign => Sys2Proof.Machine.execTAcRun1Level4 sign s
  | .tAcRun2Level3 sign => Sys2Proof.Machine.execTAcRun2Level3 sign s
  | .tAcRun4Level2 sign => Sys2Proof.Machine.execTAcRun4Level2 sign s
  | .tAcRun5Level2 sign => Sys2Proof.Machine.execTAcRun5Level2 sign s
  | .tAcRun14Level1 sign => Sys2Proof.Machine.execTAcRun14Level1 sign s
  | .tAcRun15Level1 sign => Sys2Proof.Machine.execTAcRun15Level1 sign s
  | .tAcRun16Level1 sign => Sys2Proof.Machine.execTAcRun16Level1 sign s
  | .tAcRun0Level8 sign => Sys2Proof.Machine.execTAcRun0Level8 sign s
  | .tAcRun0Level9 sign => Sys2Proof.Machine.execTAcRun0Level9 sign s
  | .tAcRun0Level10 sign => Sys2Proof.Machine.execTAcRun0Level10 sign s
  | .tAcRun0Level11 sign => Sys2Proof.Machine.execTAcRun0Level11 sign s
  | .tAcRun1Level5 sign => Sys2Proof.Machine.execTAcRun1Level5 sign s
  | .tAcRun2Level4 sign => Sys2Proof.Machine.execTAcRun2Level4 sign s
  | .tAcRun3Level3 sign => Sys2Proof.Machine.execTAcRun3Level3 sign s
  | .tAcRun4Level3 sign => Sys2Proof.Machine.execTAcRun4Level3 sign s
  | .tAcRun6Level2 sign => Sys2Proof.Machine.execTAcRun6Level2 sign s
  | .tAcRun7Level2 sign => Sys2Proof.Machine.execTAcRun7Level2 sign s
  | .tAcRun8Level2 sign => Sys2Proof.Machine.execTAcRun8Level2 sign s
  | .tAcRun17Level1 sign => Sys2Proof.Machine.execTAcRun17Level1 sign s
  | .tAcRun18Level1 sign => Sys2Proof.Machine.execTAcRun18Level1 sign s
  | .tAcRun19Level1 sign => Sys2Proof.Machine.execTAcRun19Level1 sign s
  | .tAcRun20Level1 sign => Sys2Proof.Machine.execTAcRun20Level1 sign s
  | .tAcRun21Level1 sign => Sys2Proof.Machine.execTAcRun21Level1 sign s
  | .tAcRun0Level12 sign => Sys2Proof.Machine.execTAcRun0Level12 sign s
  | .tAcRun0Level13 sign => Sys2Proof.Machine.execTAcRun0Level13 sign s
  | .tAcRun0Level14 sign => Sys2Proof.Machine.execTAcRun0Level14 sign s
  | .tAcRun0Level15 sign => Sys2Proof.Machine.execTAcRun0Level15 sign s
  | .tAcRun1Level6 sign => Sys2Proof.Machine.execTAcRun1Level6 sign s
  | .tAcRun1Level7 sign => Sys2Proof.Machine.execTAcRun1Level7 sign s
  | .tAcRun2Level5 sign => Sys2Proof.Machine.execTAcRun2Level5 sign s
  | .tAcRun3Level4 sign => Sys2Proof.Machine.execTAcRun3Level4 sign s
  | .tAcRun5Level3 sign => Sys2Proof.Machine.execTAcRun5Level3 sign s
  | .tAcRun9Level2 sign => Sys2Proof.Machine.execTAcRun9Level2 sign s
  | .tAcRun10Level2 sign => Sys2Proof.Machine.execTAcRun10Level2 sign s
  | .tAcRun22Level1 sign => Sys2Proof.Machine.execTAcRun22Level1 sign s
  | .tAcRun23Level1 sign => Sys2Proof.Machine.execTAcRun23Level1 sign s
  | .tAcRun24Level1 sign => Sys2Proof.Machine.execTAcRun24Level1 sign s
  | .tAcRun25Level1 sign => Sys2Proof.Machine.execTAcRun25Level1 sign s
  | .tAcRun26Level1 sign => Sys2Proof.Machine.execTAcRun26Level1 sign s
  | .tAcRun0Level16 sign => Sys2Proof.Machine.execTAcRun0Level16 sign s
  | .tAcRun0Level17 sign => Sys2Proof.Machine.execTAcRun0Level17 sign s
  | .tAcRun0Level18 sign => Sys2Proof.Machine.execTAcRun0Level18 sign s
  | .tAcRun0Level19 sign => Sys2Proof.Machine.execTAcRun0Level19 sign s
  | .tAcRun0Level20 sign => Sys2Proof.Machine.execTAcRun0Level20 sign s
  | .tAcRun0Level21 sign => Sys2Proof.Machine.execTAcRun0Level21 sign s
  | .tAcRun0Level22 sign => Sys2Proof.Machine.execTAcRun0Level22 sign s
  | .tAcRun0Level23 sign => Sys2Proof.Machine.execTAcRun0Level23 sign s
  | .tAcRun0Level24 sign => Sys2Proof.Machine.execTAcRun0Level24 sign s
  | .tAcRun0Level25 sign => Sys2Proof.Machine.execTAcRun0Level25 sign s
  | .tAcRun0Level26 sign => Sys2Proof.Machine.execTAcRun0Level26 sign s
  | .tAcRun0Level27 sign => Sys2Proof.Machine.execTAcRun0Level27 sign s
  | .tAcRun0Level28 sign => Sys2Proof.Machine.execTAcRun0Level28 sign s
  | .tAcRun0Level29 sign => Sys2Proof.Machine.execTAcRun0Level29 sign s
  | .tAcRun0Level30 sign => Sys2Proof.Machine.execTAcRun0Level30 sign s
  | .tAcRun0Level31 sign => Sys2Proof.Machine.execTAcRun0Level31 sign s
  | .tAcRun0Level32 sign => Sys2Proof.Machine.execTAcRun0Level32 sign s
  | .tAcRun0Level33 sign => Sys2Proof.Machine.execTAcRun0Level33 sign s
  | .tAcRun0Level34 sign => Sys2Proof.Machine.execTAcRun0Level34 sign s
  | .tAcRun0Level35 sign => Sys2Proof.Machine.execTAcRun0Level35 sign s
  | .tAcRun0Level36 sign => Sys2Proof.Machine.execTAcRun0Level36 sign s
  | .tAcRun0Level37 sign => Sys2Proof.Machine.execTAcRun0Level37 sign s
  | .tAcRun0Level38 sign => Sys2Proof.Machine.execTAcRun0Level38 sign s
  | .tAcRun0Level39 sign => Sys2Proof.Machine.execTAcRun0Level39 sign s
  | .tAcRun0Level40 sign => Sys2Proof.Machine.execTAcRun0Level40 sign s
  | .tAcRun1Level8 sign => Sys2Proof.Machine.execTAcRun1Level8 sign s
  | .tAcRun1Level9 sign => Sys2Proof.Machine.execTAcRun1Level9 sign s
  | .tAcRun1Level10 sign => Sys2Proof.Machine.execTAcRun1Level10 sign s
  | .tAcRun1Level11 sign => Sys2Proof.Machine.execTAcRun1Level11 sign s
  | .tAcRun1Level12 sign => Sys2Proof.Machine.execTAcRun1Level12 sign s
  | .tAcRun1Level13 sign => Sys2Proof.Machine.execTAcRun1Level13 sign s
  | .tAcRun1Level14 sign => Sys2Proof.Machine.execTAcRun1Level14 sign s
  | .tAcRun1Level15 sign => Sys2Proof.Machine.execTAcRun1Level15 sign s
  | .tAcRun1Level16 sign => Sys2Proof.Machine.execTAcRun1Level16 sign s
  | .tAcRun1Level17 sign => Sys2Proof.Machine.execTAcRun1Level17 sign s
  | .tAcRun1Level18 sign => Sys2Proof.Machine.execTAcRun1Level18 sign s
  | .tAcRun6Level3 sign => Sys2Proof.Machine.execTAcRun6Level3 sign s
  | .tAcRun11Level2 sign => Sys2Proof.Machine.execTAcRun11Level2 sign s
  | .tAcRun12Level2 sign => Sys2Proof.Machine.execTAcRun12Level2 sign s
  | .tAcRun13Level2 sign => Sys2Proof.Machine.execTAcRun13Level2 sign s
  | .tAcRun14Level2 sign => Sys2Proof.Machine.execTAcRun14Level2 sign s
  | .tAcRun15Level2 sign => Sys2Proof.Machine.execTAcRun15Level2 sign s
  | .tAcRun16Level2 sign => Sys2Proof.Machine.execTAcRun16Level2 sign s
  | .tAcRun27Level1 sign => Sys2Proof.Machine.execTAcRun27Level1 sign s
  | .tAcRun28Level1 sign => Sys2Proof.Machine.execTAcRun28Level1 sign s
  | .tAcRun29Level1 sign => Sys2Proof.Machine.execTAcRun29Level1 sign s
  | .tAcRun30Level1 sign => Sys2Proof.Machine.execTAcRun30Level1 sign s
  | .tAcRun31Level1 sign => Sys2Proof.Machine.execTAcRun31Level1 sign s
  | .tAcfRun0Level1First sign => Sys2Proof.Machine.execTAcfRun0Level1First sign s
  | .tAcnEndOfBlock => Sys2Proof.Machine.execTAcnEndOfBlock s
  | .tAcnRun0Level1Next sign => Sys2Proof.Machine.execTAcnRun0Level1Next sign s
  | .tAcEscapeShort run lv => Sys2Proof.Machine.execTAcEscapeShort run lv s
  | .tAcEscapeLongPos run m => Sys2Proof.Machine.execTAcEscapeLongPos run m s
  | .tAcEscapeLongNeg run m => Sys2Proof.Machine.execTAcEscapeLongNeg run m s
  | .dcDiffSize1 d => Sys2Proof.Machine.execDcDiffSize1 d s
  | .dcDiffSize2 d => Sys2Proof.Machine.execDcDiffSize2 d s
  | .dcDiffSize3 d => Sys2Proof.Machine.execDcDiffSize3 d s
  | .dcDiffSize4 d => Sys2Proof.Machine.execDcDiffSize4 d s
  | .dcDiffSize5 d => Sys2Proof.Machine.execDcDiffSize5 d s
  | .dcDiffSize6 d => Sys2Proof.Machine.execDcDiffSize6 d s
  | .dcDiffSize7 d => Sys2Proof.Machine.execDcDiffSize7 d s
  | .dcDiffSize8 d => Sys2Proof.Machine.execDcDiffSize8 d s
  | .mvResidualRSize1 r => Sys2Proof.Machine.execMvResidualRSize1 r s
  | .mvResidualRSize2 r => Sys2Proof.Machine.execMvResidualRSize2 r s
  | .mvResidualRSize3 r => Sys2Proof.Machine.execMvResidualRSize3 r s
  | .mvResidualRSize4 r => Sys2Proof.Machine.execMvResidualRSize4 r s
  | .mvResidualRSize5 r => Sys2Proof.Machine.execMvResidualRSize5 r s
  | .mvResidualRSize6 r => Sys2Proof.Machine.execMvResidualRSize6 r s
  | .tMbaIncr1 => Sys2Proof.Machine.execTMbaIncr1 s
  | .tMbaIncr2 => Sys2Proof.Machine.execTMbaIncr2 s
  | .tMbaIncr3 => Sys2Proof.Machine.execTMbaIncr3 s
  | .tMbaIncr4 => Sys2Proof.Machine.execTMbaIncr4 s
  | .tMbaIncr5 => Sys2Proof.Machine.execTMbaIncr5 s
  | .tMbaIncr6 => Sys2Proof.Machine.execTMbaIncr6 s
  | .tMbaIncr7 => Sys2Proof.Machine.execTMbaIncr7 s
  | .tMbaIncr8 => Sys2Proof.Machine.execTMbaIncr8 s
  | .tMbaIncr9 => Sys2Proof.Machine.execTMbaIncr9 s
  | .tMbaIncr10 => Sys2Proof.Machine.execTMbaIncr10 s
  | .tMbaIncr11 => Sys2Proof.Machine.execTMbaIncr11 s
  | .tMbaIncr12 => Sys2Proof.Machine.execTMbaIncr12 s
  | .tMbaIncr13 => Sys2Proof.Machine.execTMbaIncr13 s
  | .tMbaIncr14 => Sys2Proof.Machine.execTMbaIncr14 s
  | .tMbaIncr15 => Sys2Proof.Machine.execTMbaIncr15 s
  | .tMbaIncr16 => Sys2Proof.Machine.execTMbaIncr16 s
  | .tMbaIncr17 => Sys2Proof.Machine.execTMbaIncr17 s
  | .tMbaIncr18 => Sys2Proof.Machine.execTMbaIncr18 s
  | .tMbaIncr19 => Sys2Proof.Machine.execTMbaIncr19 s
  | .tMbaIncr20 => Sys2Proof.Machine.execTMbaIncr20 s
  | .tMbaIncr21 => Sys2Proof.Machine.execTMbaIncr21 s
  | .tMbaIncr22 => Sys2Proof.Machine.execTMbaIncr22 s
  | .tMbaIncr23 => Sys2Proof.Machine.execTMbaIncr23 s
  | .tMbaIncr24 => Sys2Proof.Machine.execTMbaIncr24 s
  | .tMbaIncr25 => Sys2Proof.Machine.execTMbaIncr25 s
  | .tMbaIncr26 => Sys2Proof.Machine.execTMbaIncr26 s
  | .tMbaIncr27 => Sys2Proof.Machine.execTMbaIncr27 s
  | .tMbaIncr28 => Sys2Proof.Machine.execTMbaIncr28 s
  | .tMbaIncr29 => Sys2Proof.Machine.execTMbaIncr29 s
  | .tMbaIncr30 => Sys2Proof.Machine.execTMbaIncr30 s
  | .tMbaIncr31 => Sys2Proof.Machine.execTMbaIncr31 s
  | .tMbaIncr32 => Sys2Proof.Machine.execTMbaIncr32 s
  | .tMbaIncr33 => Sys2Proof.Machine.execTMbaIncr33 s
  | .tMbaStuffing => Sys2Proof.Machine.execTMbaStuffing s
  | .tMbaEscape => Sys2Proof.Machine.execTMbaEscape s
  | .tMbtIQ0f0b0p0i1 => Sys2Proof.Machine.execTMbtIQ0f0b0p0i1 s
  | .tMbtIQ1f0b0p0i1 => Sys2Proof.Machine.execTMbtIQ1f0b0p0i1 s
  | .tMbtPQ0f1b0p1i0 => Sys2Proof.Machine.execTMbtPQ0f1b0p1i0 s
  | .tMbtPQ0f0b0p1i0 => Sys2Proof.Machine.execTMbtPQ0f0b0p1i0 s
  | .tMbtPQ0f1b0p0i0 => Sys2Proof.Machine.execTMbtPQ0f1b0p0i0 s
  | .tMbtPQ0f0b0p0i1 => Sys2Proof.Machine.execTMbtPQ0f0b0p0i1 s
  | .tMbtPQ1f1b0p1i0 => Sys2Proof.Machine.execTMbtPQ1f1b0p1i0 s
  | .tMbtPQ1f0b0p1i0 => Sys2Proof.Machine.execTMbtPQ1f0b0p1i0 s
  | .tMbtPQ1f0b0p0i1 => Sys2Proof.Machine.execTMbtPQ1f0b0p0i1 s
  | .tMbtBQ0f1b1p0i0 => Sys2Proof.Machine.execTMbtBQ0f1b1p0i0 s
  | .tMbtBQ0f1b1p1i0 => Sys2Proof.Machine.execTMbtBQ0f1b1p1i0 s
  | .tMbtBQ0f0b1p0i0 => Sys2Proof.Machine.execTMbtBQ0f0b1p0i0 s
  | .tMbtBQ0f0b1p1i0 => Sys2Proof.Machine.execTMbtBQ0f0b1p1i0 s
  | .tMbtBQ0f1b0p0i0 => Sys2Proof.Machine.execTMbtBQ0f1b0p0i0 s
  | .tMbtBQ0f1b0p1i0 => Sys2Proof.Machine.execTMbtBQ0f1b0p1i0 s
  | .tMbtBQ0f0b0p0i1 => Sys2Proof.Machine.execTMbtBQ0f0b0p0i1 s
  | .tMbtBQ1f1b1p1i0 => Sys2Proof.Machine.execTMbtBQ1f1b1p1i0 s
  | .tMbtBQ1f1b0p1i0 => Sys2Proof.Machine.execTMbtBQ1f1b0p1i0 s
  | .tMbtBQ1f0b1p1i0 => Sys2Proof.Machine.execTMbtBQ1f0b1p1i0 s
  | .tMbtBQ1f0b0p0i1 => Sys2Proof.Machine.execTMbtBQ1f0b0p0i1 s
  | .tMbtDQ0f0b0p0i1 => Sys2Proof.Machine.execTMbtDQ0f0b0p0i1 s
  | .tMvCode0 => Sys2Proof.Machine.execTMvCode0 s
  | .tMvCode1 => Sys2Proof.Machine.execTMvCode1 s
  | .tMvCodeM1 => Sys2Proof.Machine.execTMvCodeM1 s
  | .tMvCode2 => Sys2Proof.Machine.execTMvCode2 s
  | .tMvCodeM2 => Sys2Proof.Machine.execTMvCodeM2 s
  | .tMvCode3 => Sys2Proof.Machine.execTMvCode3 s
  | .tMvCodeM3 => Sys2Proof.Machine.execTMvCodeM3 s
  | .tMvCode4 => Sys2Proof.Machine.execTMvCode4 s
  | .tMvCodeM4 => Sys2Proof.Machine.execTMvCodeM4 s
  | .tMvCode5 => Sys2Proof.Machine.execTMvCode5 s
  | .tMvCodeM5 => Sys2Proof.Machine.execTMvCodeM5 s
  | .tMvCode6 => Sys2Proof.Machine.execTMvCode6 s
  | .tMvCodeM6 => Sys2Proof.Machine.execTMvCodeM6 s
  | .tMvCode7 => Sys2Proof.Machine.execTMvCode7 s
  | .tMvCodeM7 => Sys2Proof.Machine.execTMvCodeM7 s
  | .tMvCode8 => Sys2Proof.Machine.execTMvCode8 s
  | .tMvCodeM8 => Sys2Proof.Machine.execTMvCodeM8 s
  | .tMvCode9 => Sys2Proof.Machine.execTMvCode9 s
  | .tMvCodeM9 => Sys2Proof.Machine.execTMvCodeM9 s
  | .tMvCode10 => Sys2Proof.Machine.execTMvCode10 s
  | .tMvCodeM10 => Sys2Proof.Machine.execTMvCodeM10 s
  | .tMvCode11 => Sys2Proof.Machine.execTMvCode11 s
  | .tMvCodeM11 => Sys2Proof.Machine.execTMvCodeM11 s
  | .tMvCode12 => Sys2Proof.Machine.execTMvCode12 s
  | .tMvCodeM12 => Sys2Proof.Machine.execTMvCodeM12 s
  | .tMvCode13 => Sys2Proof.Machine.execTMvCode13 s
  | .tMvCodeM13 => Sys2Proof.Machine.execTMvCodeM13 s
  | .tMvCode14 => Sys2Proof.Machine.execTMvCode14 s
  | .tMvCodeM14 => Sys2Proof.Machine.execTMvCodeM14 s
  | .tMvCode15 => Sys2Proof.Machine.execTMvCode15 s
  | .tMvCodeM15 => Sys2Proof.Machine.execTMvCodeM15 s
  | .tMvCode16 => Sys2Proof.Machine.execTMvCode16 s
  | .tMvCodeM16 => Sys2Proof.Machine.execTMvCodeM16 s
  | .tCbpCbp60 => Sys2Proof.Machine.execTCbpCbp60 s
  | .tCbpCbp4 => Sys2Proof.Machine.execTCbpCbp4 s
  | .tCbpCbp8 => Sys2Proof.Machine.execTCbpCbp8 s
  | .tCbpCbp16 => Sys2Proof.Machine.execTCbpCbp16 s
  | .tCbpCbp32 => Sys2Proof.Machine.execTCbpCbp32 s
  | .tCbpCbp12 => Sys2Proof.Machine.execTCbpCbp12 s
  | .tCbpCbp48 => Sys2Proof.Machine.execTCbpCbp48 s
  | .tCbpCbp20 => Sys2Proof.Machine.execTCbpCbp20 s
  | .tCbpCbp40 => Sys2Proof.Machine.execTCbpCbp40 s
  | .tCbpCbp28 => Sys2Proof.Machine.execTCbpCbp28 s
  | .tCbpCbp44 => Sys2Proof.Machine.execTCbpCbp44 s
  | .tCbpCbp52 => Sys2Proof.Machine.execTCbpCbp52 s
  | .tCbpCbp56 => Sys2Proof.Machine.execTCbpCbp56 s
  | .tCbpCbp1 => Sys2Proof.Machine.execTCbpCbp1 s
  | .tCbpCbp61 => Sys2Proof.Machine.execTCbpCbp61 s
  | .tCbpCbp2 => Sys2Proof.Machine.execTCbpCbp2 s
  | .tCbpCbp62 => Sys2Proof.Machine.execTCbpCbp62 s
  | .tCbpCbp24 => Sys2Proof.Machine.execTCbpCbp24 s
  | .tCbpCbp36 => Sys2Proof.Machine.execTCbpCbp36 s
  | .tCbpCbp3 => Sys2Proof.Machine.execTCbpCbp3 s
  | .tCbpCbp63 => Sys2Proof.Machine.execTCbpCbp63 s
  | .tCbpCbp5 => Sys2Proof.Machine.execTCbpCbp5 s
  | .tCbpCbp9 => Sys2Proof.Machine.execTCbpCbp9 s
  | .tCbpCbp17 => Sys2Proof.Machine.execTCbpCbp17 s
  | .tCbpCbp33 => Sys2Proof.Machine.execTCbpCbp33 s
  | .tCbpCbp6 => Sys2Proof.Machine.execTCbpCbp6 s
  | .tCbpCbp10 => Sys2Proof.Machine.execTCbpCbp10 s
  | .tCbpCbp18 => Sys2Proof.Machine.execTCbpCbp18 s
  | .tCbpCbp34 => Sys2Proof.Machine.execTCbpCbp34 s
  | .tCbpCbp7 => Sys2Proof.Machine.execTCbpCbp7 s
  | .tCbpCbp11 => Sys2Proof.Machine.execTCbpCbp11 s
  | .tCbpCbp19 => Sys2Proof.Machine.execTCbpCbp19 s
  | .tCbpCbp35 => Sys2Proof.Machine.execTCbpCbp35 s
  | .tCbpCbp13 => Sys2Proof.Machine.execTCbpCbp13 s
  | .tCbpCbp49 => Sys2Proof.Machine.execTCbpCbp49 s
  | .tCbpCbp21 => Sys2Proof.Machine.execTCbpCbp21 s
  | .tCbpCbp41 => Sys2Proof.Machine.execTCbpCbp41 s
  | .tCbpCbp14 => Sys2Proof.Machine.execTCbpCbp14 s
  | .tCbpCbp50 => Sys2Proof.Machine.execTCbpCbp50 s
  | .tCbpCbp22 => Sys2Proof.Machine.execTCbpCbp22 s
  | .tCbpCbp42 => Sys2Proof.Machine.execTCbpCbp42 s
  | .tCbpCbp15 => Sys2Proof.Machine.execTCbpCbp15 s
  | .tCbpCbp51 => Sys2Proof.Machine.execTCbpCbp51 s
  | .tCbpCbp23 => Sys2Proof.Machine.execTCbpCbp23 s
  | .tCbpCbp43 => Sys2Proof.Machine.execTCbpCbp43 s
  | .tCbpCbp25 => Sys2Proof.Machine.execTCbpCbp25 s
  | .tCbpCbp37 => Sys2Proof.Machine.execTCbpCbp37 s
  | .tCbpCbp26 => Sys2Proof.Machine.execTCbpCbp26 s
  | .tCbpCbp38 => Sys2Proof.Machine.execTCbpCbp38 s
  | .tCbpCbp29 => Sys2Proof.Machine.execTCbpCbp29 s
  | .tCbpCbp45 => Sys2Proof.Machine.execTCbpCbp45 s
  | .tCbpCbp53 => Sys2Proof.Machine.execTCbpCbp53 s
  | .tCbpCbp57 => Sys2Proof.Machine.execTCbpCbp57 s
  | .tCbpCbp30 => Sys2Proof.Machine.execTCbpCbp30 s
  | .tCbpCbp46 => Sys2Proof.Machine.execTCbpCbp46 s
  | .tCbpCbp54 => Sys2Proof.Machine.execTCbpCbp54 s
  | .tCbpCbp58 => Sys2Proof.Machine.execTCbpCbp58 s
  | .tCbpCbp31 => Sys2Proof.Machine.execTCbpCbp31 s
  | .tCbpCbp47 => Sys2Proof.Machine.execTCbpCbp47 s
  | .tCbpCbp55 => Sys2Proof.Machine.execTCbpCbp55 s
  | .tCbpCbp59 => Sys2Proof.Machine.execTCbpCbp59 s
  | .tCbpCbp27 => Sys2Proof.Machine.execTCbpCbp27 s
  | .tCbpCbp39 => Sys2Proof.Machine.execTCbpCbp39 s
  | .tDclSize0 => Sys2Proof.Machine.execTDclSize0 s
  | .tDclSize1 => Sys2Proof.Machine.execTDclSize1 s
  | .tDclSize2 => Sys2Proof.Machine.execTDclSize2 s
  | .tDclSize3 => Sys2Proof.Machine.execTDclSize3 s
  | .tDclSize4 => Sys2Proof.Machine.execTDclSize4 s
  | .tDclSize5 => Sys2Proof.Machine.execTDclSize5 s
  | .tDclSize6 => Sys2Proof.Machine.execTDclSize6 s
  | .tDclSize7 => Sys2Proof.Machine.execTDclSize7 s
  | .tDclSize8 => Sys2Proof.Machine.execTDclSize8 s
  | .tDccSize0 => Sys2Proof.Machine.execTDccSize0 s
  | .tDccSize1 => Sys2Proof.Machine.execTDccSize1 s
  | .tDccSize2 => Sys2Proof.Machine.execTDccSize2 s
  | .tDccSize3 => Sys2Proof.Machine.execTDccSize3 s
  | .tDccSize4 => Sys2Proof.Machine.execTDccSize4 s
  | .tDccSize5 => Sys2Proof.Machine.execTDccSize5 s
  | .tDccSize6 => Sys2Proof.Machine.execTDccSize6 s
  | .tDccSize7 => Sys2Proof.Machine.execTDccSize7 s
  | .tDccSize8 => Sys2Proof.Machine.execTDccSize8 s

end Sys2Proof.Machine
end

