-- ==== Sys2Proof/Machine/Fetch.lean ====
section
/-! DEFINITION. What the machine does next: it takes the host's next action, which is a command word to decode or something
the host does without a command (10_state.md R22, R35, 20_memory.md R64, R66). -/

namespace Sys2Proof.Machine

/-- What the next action asks for. -/
inductive Fetched where
  /-- run this instruction in this state -/
  | instr (i : Instr) (s : State)
  /-- nothing to decode: this is the step's whole outcome -/
  | done (o : Outcome)

/-- Take the host's next action. With none waiting the block is idle: nothing happens until the host acts (log entry 1). No
action is taken on a stream whose positions do not all fit `POS_W`, so the cursor never has to wrap
(45_arithmetic_and_control.md R205 (f)); with the unbounded `POS_W` the spec takes, every stream fits. -/
def fetch (s : State) : Fetched :=
  match s.port with
  | [] => .done (.next s)
  | a :: rest =>
    if fits Config.posW s.bs.length then
      let t := { s with port := rest }
      match a with
      | .command w =>
        match decodeCommand w with
        | .ok i => .instr i t
        | .error _ => .done (illegalCommand w t)
      | .reset => .done (.next (resetEvent t))
      | .resetDuring _ => .done (.next (resetEvent t))
      | .bitPeek n => .done (hostPeek n t)
      | .bitRead n => .done (hostRead n t)
      | .bitReadS n => .done (hostReadS n t)
      | .isByteAligned => .done (.next (respond (.hostAligned (isByteAligned t)) t))
    else .done (.refused (.streamTooLong s.bs.length))

/-- The action by which the machine comes to read an instruction: a command word of its own, or, for a codeword or a field,
the command or the host's read that takes it from the stream. -/
def actionFor (i : Instr) : HostAction :=
  match i.ctx with
  | .command => .command (commandWord i)
  | .vlc t => .command (commandWord t.command)
  | .dcDiff n => .command (commandWord (.vldDcd (BitVec.ofNat 4 n)))
  | .residual n => .bitRead n

/-- The stream with `bits` at the cursor and 32 zeros after them. -/
def streamWith (s : State) (bits : Bits) : Bits :=
  (s.bs ++ List.replicate (s.pos - s.bs.length) false).take s.pos ++ bits ++ List.replicate 32 false

/-- Place a row of the opcode table where the machine takes its next instruction (log entry 13): a command word as the
host's next action; a codeword at the cursor, with the command that decodes it as the next action. -/
def placeTableWord (s : State) (nbits w : Nat) : State :=
  if nbits = 32 then { s with port := .command (BitVec.ofNat 32 w) :: s.port }
  else
    match decodeTableWord nbits w with
    | none => s
    | some i => { s with bs := streamWith s (code nbits w), port := actionFor i :: s.port }

end Sys2Proof.Machine
end

