-- ==== Sys2Proof/Certificates/Slice0/SpecTables.lean ====
section
/-! DEFINITION. The code tables once more, written from spec/opcode_table.json with each row's constructor and value, and the
unused windows of 30_encoding.md R103: what the obligations are stated over. The machine never uses this file. -/

namespace Sys2Proof.SpecTables

open Sys2Proof.Machine

/-- The 33 increment rows of `T_MBA` (R89): row, code, increment. -/
def mbaIncrements : List (Instr × Bits × Nat) :=
  [(Instr.tMbaIncr1, code 1 0b1, 1),
   (Instr.tMbaIncr2, code 3 0b011, 2),
   (Instr.tMbaIncr3, code 3 0b010, 3),
   (Instr.tMbaIncr4, code 4 0b0011, 4),
   (Instr.tMbaIncr5, code 4 0b0010, 5),
   (Instr.tMbaIncr6, code 5 0b00011, 6),
   (Instr.tMbaIncr7, code 5 0b00010, 7),
   (Instr.tMbaIncr8, code 7 0b0000111, 8),
   (Instr.tMbaIncr9, code 7 0b0000110, 9),
   (Instr.tMbaIncr10, code 8 0b00001011, 10),
   (Instr.tMbaIncr11, code 8 0b00001010, 11),
   (Instr.tMbaIncr12, code 8 0b00001001, 12),
   (Instr.tMbaIncr13, code 8 0b00001000, 13),
   (Instr.tMbaIncr14, code 8 0b00000111, 14),
   (Instr.tMbaIncr15, code 8 0b00000110, 15),
   (Instr.tMbaIncr16, code 10 0b0000010111, 16),
   (Instr.tMbaIncr17, code 10 0b0000010110, 17),
   (Instr.tMbaIncr18, code 10 0b0000010101, 18),
   (Instr.tMbaIncr19, code 10 0b0000010100, 19),
   (Instr.tMbaIncr20, code 10 0b0000010011, 20),
   (Instr.tMbaIncr21, code 10 0b0000010010, 21),
   (Instr.tMbaIncr22, code 11 0b00000100011, 22),
   (Instr.tMbaIncr23, code 11 0b00000100010, 23),
   (Instr.tMbaIncr24, code 11 0b00000100001, 24),
   (Instr.tMbaIncr25, code 11 0b00000100000, 25),
   (Instr.tMbaIncr26, code 11 0b00000011111, 26),
   (Instr.tMbaIncr27, code 11 0b00000011110, 27),
   (Instr.tMbaIncr28, code 11 0b00000011101, 28),
   (Instr.tMbaIncr29, code 11 0b00000011100, 29),
   (Instr.tMbaIncr30, code 11 0b00000011011, 30),
   (Instr.tMbaIncr31, code 11 0b00000011010, 31),
   (Instr.tMbaIncr32, code 11 0b00000011001, 32),
   (Instr.tMbaIncr33, code 11 0b00000011000, 33)]

/-- The two rows of `T_MBA` that are no increment (R89): true the escape, false the stuffing. -/
def mbaSkip (escape : Bool) : Bits := if escape then code 11 0b00000001000 else code 11 0b00000001111

/-- The rows of the four macroblock-type tables (R90 to R93): table, row, code, the flags quant, fwd, bwd, pattern, intra. -/
def macroblockTypes : List (Table × Instr × Bits × TypeFlags) :=
  [(Table.mbtI, Instr.tMbtIQ0f0b0p0i1, code 1 0b1, ⟨false, false, false, false, true⟩),
   (Table.mbtI, Instr.tMbtIQ1f0b0p0i1, code 2 0b01, ⟨true, false, false, false, true⟩),
   (Table.mbtP, Instr.tMbtPQ0f1b0p1i0, code 1 0b1, ⟨false, true, false, true, false⟩),
   (Table.mbtP, Instr.tMbtPQ0f0b0p1i0, code 2 0b01, ⟨false, false, false, true, false⟩),
   (Table.mbtP, Instr.tMbtPQ0f1b0p0i0, code 3 0b001, ⟨false, true, false, false, false⟩),
   (Table.mbtP, Instr.tMbtPQ0f0b0p0i1, code 5 0b00011, ⟨false, false, false, false, true⟩),
   (Table.mbtP, Instr.tMbtPQ1f1b0p1i0, code 5 0b00010, ⟨true, true, false, true, false⟩),
   (Table.mbtP, Instr.tMbtPQ1f0b0p1i0, code 5 0b00001, ⟨true, false, false, true, false⟩),
   (Table.mbtP, Instr.tMbtPQ1f0b0p0i1, code 6 0b000001, ⟨true, false, false, false, true⟩),
   (Table.mbtB, Instr.tMbtBQ0f1b1p0i0, code 2 0b10, ⟨false, true, true, false, false⟩),
   (Table.mbtB, Instr.tMbtBQ0f1b1p1i0, code 2 0b11, ⟨false, true, true, true, false⟩),
   (Table.mbtB, Instr.tMbtBQ0f0b1p0i0, code 3 0b010, ⟨false, false, true, false, false⟩),
   (Table.mbtB, Instr.tMbtBQ0f0b1p1i0, code 3 0b011, ⟨false, false, true, true, false⟩),
   (Table.mbtB, Instr.tMbtBQ0f1b0p0i0, code 4 0b0010, ⟨false, true, false, false, false⟩),
   (Table.mbtB, Instr.tMbtBQ0f1b0p1i0, code 4 0b0011, ⟨false, true, false, true, false⟩),
   (Table.mbtB, Instr.tMbtBQ0f0b0p0i1, code 5 0b00011, ⟨false, false, false, false, true⟩),
   (Table.mbtB, Instr.tMbtBQ1f1b1p1i0, code 5 0b00010, ⟨true, true, true, true, false⟩),
   (Table.mbtB, Instr.tMbtBQ1f1b0p1i0, code 6 0b000011, ⟨true, true, false, true, false⟩),
   (Table.mbtB, Instr.tMbtBQ1f0b1p1i0, code 6 0b000010, ⟨true, false, true, true, false⟩),
   (Table.mbtB, Instr.tMbtBQ1f0b0p0i1, code 6 0b000001, ⟨true, false, false, false, true⟩),
   (Table.mbtD, Instr.tMbtDQ0f0b0p0i1, code 1 0b1, ⟨false, false, false, false, true⟩)]

/-- The rows of `T_MV` (R94): row, code, value. -/
def motionCodes : List (Instr × Bits × Int) :=
  [(Instr.tMvCode0, code 1 0b1, 0),
   (Instr.tMvCode1, code 3 0b010, 1),
   (Instr.tMvCodeM1, code 3 0b011, (-1)),
   (Instr.tMvCode2, code 4 0b0010, 2),
   (Instr.tMvCodeM2, code 4 0b0011, (-2)),
   (Instr.tMvCode3, code 5 0b00010, 3),
   (Instr.tMvCodeM3, code 5 0b00011, (-3)),
   (Instr.tMvCode4, code 7 0b0000110, 4),
   (Instr.tMvCodeM4, code 7 0b0000111, (-4)),
   (Instr.tMvCode5, code 8 0b00001010, 5),
   (Instr.tMvCodeM5, code 8 0b00001011, (-5)),
   (Instr.tMvCode6, code 8 0b00001000, 6),
   (Instr.tMvCodeM6, code 8 0b00001001, (-6)),
   (Instr.tMvCode7, code 8 0b00000110, 7),
   (Instr.tMvCodeM7, code 8 0b00000111, (-7)),
   (Instr.tMvCode8, code 10 0b0000010110, 8),
   (Instr.tMvCodeM8, code 10 0b0000010111, (-8)),
   (Instr.tMvCode9, code 10 0b0000010100, 9),
   (Instr.tMvCodeM9, code 10 0b0000010101, (-9)),
   (Instr.tMvCode10, code 10 0b0000010010, 10),
   (Instr.tMvCodeM10, code 10 0b0000010011, (-10)),
   (Instr.tMvCode11, code 11 0b00000100010, 11),
   (Instr.tMvCodeM11, code 11 0b00000100011, (-11)),
   (Instr.tMvCode12, code 11 0b00000100000, 12),
   (Instr.tMvCodeM12, code 11 0b00000100001, (-12)),
   (Instr.tMvCode13, code 11 0b00000011110, 13),
   (Instr.tMvCodeM13, code 11 0b00000011111, (-13)),
   (Instr.tMvCode14, code 11 0b00000011100, 14),
   (Instr.tMvCodeM14, code 11 0b00000011101, (-14)),
   (Instr.tMvCode15, code 11 0b00000011010, 15),
   (Instr.tMvCodeM15, code 11 0b00000011011, (-15)),
   (Instr.tMvCode16, code 11 0b00000011000, 16),
   (Instr.tMvCodeM16, code 11 0b00000011001, (-16))]

/-- The rows of `T_CBP` (R95): row, code, value. -/
def blockPatterns : List (Instr × Bits × BitVec 6) :=
  [(Instr.tCbpCbp60, code 3 0b111, 60),
   (Instr.tCbpCbp4, code 4 0b1101, 4),
   (Instr.tCbpCbp8, code 4 0b1100, 8),
   (Instr.tCbpCbp16, code 4 0b1011, 16),
   (Instr.tCbpCbp32, code 4 0b1010, 32),
   (Instr.tCbpCbp12, code 5 0b10011, 12),
   (Instr.tCbpCbp48, code 5 0b10010, 48),
   (Instr.tCbpCbp20, code 5 0b10001, 20),
   (Instr.tCbpCbp40, code 5 0b10000, 40),
   (Instr.tCbpCbp28, code 5 0b01111, 28),
   (Instr.tCbpCbp44, code 5 0b01110, 44),
   (Instr.tCbpCbp52, code 5 0b01101, 52),
   (Instr.tCbpCbp56, code 5 0b01100, 56),
   (Instr.tCbpCbp1, code 5 0b01011, 1),
   (Instr.tCbpCbp61, code 5 0b01010, 61),
   (Instr.tCbpCbp2, code 5 0b01001, 2),
   (Instr.tCbpCbp62, code 5 0b01000, 62),
   (Instr.tCbpCbp24, code 6 0b001111, 24),
   (Instr.tCbpCbp36, code 6 0b001110, 36),
   (Instr.tCbpCbp3, code 6 0b001101, 3),
   (Instr.tCbpCbp63, code 6 0b001100, 63),
   (Instr.tCbpCbp5, code 7 0b0010111, 5),
   (Instr.tCbpCbp9, code 7 0b0010110, 9),
   (Instr.tCbpCbp17, code 7 0b0010101, 17),
   (Instr.tCbpCbp33, code 7 0b0010100, 33),
   (Instr.tCbpCbp6, code 7 0b0010011, 6),
   (Instr.tCbpCbp10, code 7 0b0010010, 10),
   (Instr.tCbpCbp18, code 7 0b0010001, 18),
   (Instr.tCbpCbp34, code 7 0b0010000, 34),
   (Instr.tCbpCbp7, code 8 0b00011111, 7),
   (Instr.tCbpCbp11, code 8 0b00011110, 11),
   (Instr.tCbpCbp19, code 8 0b00011101, 19),
   (Instr.tCbpCbp35, code 8 0b00011100, 35)] ++
  [(Instr.tCbpCbp13, code 8 0b00011011, 13),
   (Instr.tCbpCbp49, code 8 0b00011010, 49),
   (Instr.tCbpCbp21, code 8 0b00011001, 21),
   (Instr.tCbpCbp41, code 8 0b00011000, 41),
   (Instr.tCbpCbp14, code 8 0b00010111, 14),
   (Instr.tCbpCbp50, code 8 0b00010110, 50),
   (Instr.tCbpCbp22, code 8 0b00010101, 22),
   (Instr.tCbpCbp42, code 8 0b00010100, 42),
   (Instr.tCbpCbp15, code 8 0b00010011, 15),
   (Instr.tCbpCbp51, code 8 0b00010010, 51),
   (Instr.tCbpCbp23, code 8 0b00010001, 23),
   (Instr.tCbpCbp43, code 8 0b00010000, 43),
   (Instr.tCbpCbp25, code 8 0b00001111, 25),
   (Instr.tCbpCbp37, code 8 0b00001110, 37),
   (Instr.tCbpCbp26, code 8 0b00001101, 26),
   (Instr.tCbpCbp38, code 8 0b00001100, 38),
   (Instr.tCbpCbp29, code 8 0b00001011, 29),
   (Instr.tCbpCbp45, code 8 0b00001010, 45),
   (Instr.tCbpCbp53, code 8 0b00001001, 53),
   (Instr.tCbpCbp57, code 8 0b00001000, 57),
   (Instr.tCbpCbp30, code 8 0b00000111, 30),
   (Instr.tCbpCbp46, code 8 0b00000110, 46),
   (Instr.tCbpCbp54, code 8 0b00000101, 54),
   (Instr.tCbpCbp58, code 8 0b00000100, 58),
   (Instr.tCbpCbp31, code 9 0b000000111, 31),
   (Instr.tCbpCbp47, code 9 0b000000110, 47),
   (Instr.tCbpCbp55, code 9 0b000000101, 55),
   (Instr.tCbpCbp59, code 9 0b000000100, 59),
   (Instr.tCbpCbp27, code 9 0b000000011, 27),
   (Instr.tCbpCbp39, code 9 0b000000010, 39)]

/-- The rows of `T_DCL` and `T_DCC` (R96, R97): table, row, code, size. -/
def dcSizes : List (Table × Instr × Bits × Nat) :=
  [(Table.dcl, Instr.tDclSize0, code 3 0b100, 0),
   (Table.dcl, Instr.tDclSize1, code 2 0b00, 1),
   (Table.dcl, Instr.tDclSize2, code 2 0b01, 2),
   (Table.dcl, Instr.tDclSize3, code 3 0b101, 3),
   (Table.dcl, Instr.tDclSize4, code 3 0b110, 4),
   (Table.dcl, Instr.tDclSize5, code 4 0b1110, 5),
   (Table.dcl, Instr.tDclSize6, code 5 0b11110, 6),
   (Table.dcl, Instr.tDclSize7, code 6 0b111110, 7),
   (Table.dcl, Instr.tDclSize8, code 7 0b1111110, 8),
   (Table.dcc, Instr.tDccSize0, code 2 0b00, 0),
   (Table.dcc, Instr.tDccSize1, code 2 0b01, 1),
   (Table.dcc, Instr.tDccSize2, code 2 0b10, 2),
   (Table.dcc, Instr.tDccSize3, code 3 0b110, 3),
   (Table.dcc, Instr.tDccSize4, code 4 0b1110, 4),
   (Table.dcc, Instr.tDccSize5, code 5 0b11110, 5),
   (Table.dcc, Instr.tDccSize6, code 6 0b111110, 6),
   (Table.dcc, Instr.tDccSize7, code 7 0b1111110, 7),
   (Table.dcc, Instr.tDccSize8, code 8 0b11111110, 8)]

/-- The 110 rows of `T_AC` both AC tables have (R98, R99): row by sign bit, code without the sign bit, run, magnitude. -/
def runLevels : List ((Bool → Instr) × Bits × Nat × Nat) :=
  [(Instr.tAcRun1Level1, code 3 0b011, 1, 1),
   (Instr.tAcRun0Level2, code 4 0b0100, 0, 2),
   (Instr.tAcRun2Level1, code 4 0b0101, 2, 1),
   (Instr.tAcRun0Level3, code 5 0b00101, 0, 3),
   (Instr.tAcRun3Level1, code 5 0b00111, 3, 1),
   (Instr.tAcRun4Level1, code 5 0b00110, 4, 1),
   (Instr.tAcRun1Level2, code 6 0b000110, 1, 2),
   (Instr.tAcRun5Level1, code 6 0b000111, 5, 1),
   (Instr.tAcRun6Level1, code 6 0b000101, 6, 1),
   (Instr.tAcRun7Level1, code 6 0b000100, 7, 1),
   (Instr.tAcRun0Level4, code 7 0b0000110, 0, 4),
   (Instr.tAcRun2Level2, code 7 0b0000100, 2, 2),
   (Instr.tAcRun8Level1, code 7 0b0000111, 8, 1),
   (Instr.tAcRun9Level1, code 7 0b0000101, 9, 1),
   (Instr.tAcRun0Level5, code 8 0b00100110, 0, 5),
   (Instr.tAcRun0Level6, code 8 0b00100001, 0, 6),
   (Instr.tAcRun1Level3, code 8 0b00100101, 1, 3),
   (Instr.tAcRun3Level2, code 8 0b00100100, 3, 2),
   (Instr.tAcRun10Level1, code 8 0b00100111, 10, 1),
   (Instr.tAcRun11Level1, code 8 0b00100011, 11, 1),
   (Instr.tAcRun12Level1, code 8 0b00100010, 12, 1),
   (Instr.tAcRun13Level1, code 8 0b00100000, 13, 1),
   (Instr.tAcRun0Level7, code 10 0b0000001010, 0, 7),
   (Instr.tAcRun1Level4, code 10 0b0000001100, 1, 4),
   (Instr.tAcRun2Level3, code 10 0b0000001011, 2, 3),
   (Instr.tAcRun4Level2, code 10 0b0000001111, 4, 2),
   (Instr.tAcRun5Level2, code 10 0b0000001001, 5, 2),
   (Instr.tAcRun14Level1, code 10 0b0000001110, 14, 1),
   (Instr.tAcRun15Level1, code 10 0b0000001101, 15, 1),
   (Instr.tAcRun16Level1, code 10 0b0000001000, 16, 1),
   (Instr.tAcRun0Level8, code 12 0b000000011101, 0, 8),
   (Instr.tAcRun0Level9, code 12 0b000000011000, 0, 9),
   (Instr.tAcRun0Level10, code 12 0b000000010011, 0, 10),
   (Instr.tAcRun0Level11, code 12 0b000000010000, 0, 11),
   (Instr.tAcRun1Level5, code 12 0b000000011011, 1, 5),
   (Instr.tAcRun2Level4, code 12 0b000000010100, 2, 4),
   (Instr.tAcRun3Level3, code 12 0b000000011100, 3, 3)] ++
  [(Instr.tAcRun4Level3, code 12 0b000000010010, 4, 3),
   (Instr.tAcRun6Level2, code 12 0b000000011110, 6, 2),
   (Instr.tAcRun7Level2, code 12 0b000000010101, 7, 2),
   (Instr.tAcRun8Level2, code 12 0b000000010001, 8, 2),
   (Instr.tAcRun17Level1, code 12 0b000000011111, 17, 1),
   (Instr.tAcRun18Level1, code 12 0b000000011010, 18, 1),
   (Instr.tAcRun19Level1, code 12 0b000000011001, 19, 1),
   (Instr.tAcRun20Level1, code 12 0b000000010111, 20, 1),
   (Instr.tAcRun21Level1, code 12 0b000000010110, 21, 1),
   (Instr.tAcRun0Level12, code 13 0b0000000011010, 0, 12),
   (Instr.tAcRun0Level13, code 13 0b0000000011001, 0, 13),
   (Instr.tAcRun0Level14, code 13 0b0000000011000, 0, 14),
   (Instr.tAcRun0Level15, code 13 0b0000000010111, 0, 15),
   (Instr.tAcRun1Level6, code 13 0b0000000010110, 1, 6),
   (Instr.tAcRun1Level7, code 13 0b0000000010101, 1, 7),
   (Instr.tAcRun2Level5, code 13 0b0000000010100, 2, 5),
   (Instr.tAcRun3Level4, code 13 0b0000000010011, 3, 4),
   (Instr.tAcRun5Level3, code 13 0b0000000010010, 5, 3),
   (Instr.tAcRun9Level2, code 13 0b0000000010001, 9, 2),
   (Instr.tAcRun10Level2, code 13 0b0000000010000, 10, 2),
   (Instr.tAcRun22Level1, code 13 0b0000000011111, 22, 1),
   (Instr.tAcRun23Level1, code 13 0b0000000011110, 23, 1),
   (Instr.tAcRun24Level1, code 13 0b0000000011101, 24, 1),
   (Instr.tAcRun25Level1, code 13 0b0000000011100, 25, 1),
   (Instr.tAcRun26Level1, code 13 0b0000000011011, 26, 1),
   (Instr.tAcRun0Level16, code 14 0b00000000011111, 0, 16),
   (Instr.tAcRun0Level17, code 14 0b00000000011110, 0, 17),
   (Instr.tAcRun0Level18, code 14 0b00000000011101, 0, 18),
   (Instr.tAcRun0Level19, code 14 0b00000000011100, 0, 19),
   (Instr.tAcRun0Level20, code 14 0b00000000011011, 0, 20),
   (Instr.tAcRun0Level21, code 14 0b00000000011010, 0, 21),
   (Instr.tAcRun0Level22, code 14 0b00000000011001, 0, 22),
   (Instr.tAcRun0Level23, code 14 0b00000000011000, 0, 23),
   (Instr.tAcRun0Level24, code 14 0b00000000010111, 0, 24),
   (Instr.tAcRun0Level25, code 14 0b00000000010110, 0, 25),
   (Instr.tAcRun0Level26, code 14 0b00000000010101, 0, 26),
   (Instr.tAcRun0Level27, code 14 0b00000000010100, 0, 27)] ++
  [(Instr.tAcRun0Level28, code 14 0b00000000010011, 0, 28),
   (Instr.tAcRun0Level29, code 14 0b00000000010010, 0, 29),
   (Instr.tAcRun0Level30, code 14 0b00000000010001, 0, 30),
   (Instr.tAcRun0Level31, code 14 0b00000000010000, 0, 31),
   (Instr.tAcRun0Level32, code 15 0b000000000011000, 0, 32),
   (Instr.tAcRun0Level33, code 15 0b000000000010111, 0, 33),
   (Instr.tAcRun0Level34, code 15 0b000000000010110, 0, 34),
   (Instr.tAcRun0Level35, code 15 0b000000000010101, 0, 35),
   (Instr.tAcRun0Level36, code 15 0b000000000010100, 0, 36),
   (Instr.tAcRun0Level37, code 15 0b000000000010011, 0, 37),
   (Instr.tAcRun0Level38, code 15 0b000000000010010, 0, 38),
   (Instr.tAcRun0Level39, code 15 0b000000000010001, 0, 39),
   (Instr.tAcRun0Level40, code 15 0b000000000010000, 0, 40),
   (Instr.tAcRun1Level8, code 15 0b000000000011111, 1, 8),
   (Instr.tAcRun1Level9, code 15 0b000000000011110, 1, 9),
   (Instr.tAcRun1Level10, code 15 0b000000000011101, 1, 10),
   (Instr.tAcRun1Level11, code 15 0b000000000011100, 1, 11),
   (Instr.tAcRun1Level12, code 15 0b000000000011011, 1, 12),
   (Instr.tAcRun1Level13, code 15 0b000000000011010, 1, 13),
   (Instr.tAcRun1Level14, code 15 0b000000000011001, 1, 14),
   (Instr.tAcRun1Level15, code 16 0b0000000000010011, 1, 15),
   (Instr.tAcRun1Level16, code 16 0b0000000000010010, 1, 16),
   (Instr.tAcRun1Level17, code 16 0b0000000000010001, 1, 17),
   (Instr.tAcRun1Level18, code 16 0b0000000000010000, 1, 18),
   (Instr.tAcRun6Level3, code 16 0b0000000000010100, 6, 3),
   (Instr.tAcRun11Level2, code 16 0b0000000000011010, 11, 2),
   (Instr.tAcRun12Level2, code 16 0b0000000000011001, 12, 2),
   (Instr.tAcRun13Level2, code 16 0b0000000000011000, 13, 2),
   (Instr.tAcRun14Level2, code 16 0b0000000000010111, 14, 2),
   (Instr.tAcRun15Level2, code 16 0b0000000000010110, 15, 2),
   (Instr.tAcRun16Level2, code 16 0b0000000000010101, 16, 2),
   (Instr.tAcRun27Level1, code 16 0b0000000000011111, 27, 1),
   (Instr.tAcRun28Level1, code 16 0b0000000000011110, 28, 1),
   (Instr.tAcRun29Level1, code 16 0b0000000000011101, 29, 1),
   (Instr.tAcRun30Level1, code 16 0b0000000000011100, 30, 1),
   (Instr.tAcRun31Level1, code 16 0b0000000000011011, 31, 1)]

/-- The leading bits that match no row of a table (R103). -/
def unusedPrefixes : Table → List Bits
  | .mba => [code 8 0b00000000, code 11 0b00000001001, code 10 0b0000000101, code 10 0b0000000110,
      code 11 0b00000001110, code 8 0b00000010]
  | .mbtI => [code 2 0b00]
  | .mbtP => [code 6 0b000000]
  | .mbtB => [code 6 0b000000]
  | .mbtD => [code 1 0b0]
  | .mv => [code 7 0b0000000, code 8 0b00000010]
  | .cbp => [code 8 0b00000000]
  | .dcl => [code 7 0b1111111]
  | .dcc => [code 8 0b11111111]
  | .acf => [code 12 0b000000000000]
  | .acn => [code 12 0b000000000000]

/-- The opcode of each command that decodes a table, and the width it peeks (R82, 00_scope.md R7). -/
def tableCommands : List (Instr × BitVec 8 × Table × Nat) :=
  [(.vldMbtI, 0x02, .mbtI, 2), (.vldMbtP, 0x02, .mbtP, 6), (.vldMbtB, 0x02, .mbtB, 6), (.vldMbtD, 0x02, .mbtD, 1),
   (.vldMv, 0x03, .mv, 11), (.vldCbp, 0x04, .cbp, 9), (.vldDcl, 0x05, .dcl, 7), (.vldDcc, 0x06, .dcc, 8),
   (.vldAcf, 0x08, .acf, 17), (.vldAcn, 0x09, .acn, 17), (.vldMba, 0x01, .mba, 11)]

/-- What one motion code adds to the predictor before the wrap (42_mvr.md R165): `code * f` shortened by the complement
`f - 1 - r` of the residual, which is not used when `f = 1` or `code = 0`. -/
def motionDelta (f : Int) (code : Int) (r : Int) : Int :=
  if f = 1 ∨ code = 0 then code * f
  else if 0 < code then code * f - (f - 1 - r)
  else code * f + (f - 1 - r)

/-- The displacement fields of an accumulator value (42_mvr.md R169, `CHROMA_HALVE = asr`). -/
def displacement (fullPel : Bool) (n : Int) : Displacement :=
  let l := if fullPel then 2 * n else n
  { l := l, lfull := l / 2, lhalf := decide (l % 2 = 1), c := l / 2, cfull := l / 2 / 2, chalf := decide (l / 2 % 2 = 1) }

/-- The integer matrix of 43_idct.md R187, row `n`, column `k`. -/
def kernelMatrix : List (List Int) :=
  [[4194304, 5818368, 5480448, 4931584, 4194304, 3295232, 2269184, 1157120],
   [4194304, 4931888, 2269184, -1156952, -4194304, -5816616, -5480448, -3295648],
   [4194304, 3295648, -2269184, -5816616, -4194304, 1156952, 5480448, 4931888],
   [4194304, 1157120, -5480448, -3295232, 4194304, 4931584, -2269184, -5818368],
   [4194304, -1157120, -5480448, 3295232, 4194304, -4931584, -2269184, 5818368],
   [4194304, -3295648, -2269184, 5816616, -4194304, -1156952, 5480448, -4931888],
   [4194304, -4931888, 2269184, 1156952, -4194304, 5816616, -5480448, 3295648],
   [4194304, -5818368, 5480448, -4931584, 4194304, -3295232, 2269184, -1157120]]

/-- Entry `M[n][k]` of that matrix. -/
def kernelEntry (n k : Fin 8) : Int := (kernelMatrix.getD n []).getD k 0

/-- `v / 2^s` to the nearest integer, ties away from zero, as 00_scope.md R14 writes it. -/
def nearestAway (v : Int) (s : Nat) : Int := v.sign * ((|v| + 2 ^ (s - 1)) / 2 ^ s)

/-- Every sum and product of the network of 43_idct.md R186, stage by stage, the eight outputs last. -/
def kernelIntermediates (v : Vec8 Int) : List Int :=
  let p4 := 565 * (v.v1 + v.v7) + 2276 * v.v1
  let p5 := 565 * (v.v1 + v.v7) - 3406 * v.v7
  let p6 := 2408 * (v.v5 + v.v3) - 799 * v.v5
  let p7 := 2408 * (v.v5 + v.v3) - 4017 * v.v3
  let a0 := 2048 * (v.v0 + v.v4)
  let a1 := 2048 * (v.v0 - v.v4)
  let b2 := 1108 * (v.v2 + v.v6) - 3784 * v.v6
  let b3 := 1108 * (v.v2 + v.v6) + 1568 * v.v2
  let q1 := p4 + p6
  let q4 := p4 - p6
  let q6 := p5 + p7
  let q5 := p5 - p7
  let e0 := a0 + b3
  let e3 := a0 - b3
  let e1 := a1 + b2
  let e2 := a1 - b2
  let r2 := 1448 * (q4 + q5)
  let r4 := 1448 * (q4 - q5)
  [v.v1 + v.v7, 565 * (v.v1 + v.v7), 2276 * v.v1, 3406 * v.v7, p4, p5,
   v.v5 + v.v3, 2408 * (v.v5 + v.v3), 799 * v.v5, 4017 * v.v3, p6, p7,
   v.v0 + v.v4, a0, v.v0 - v.v4, a1, v.v2 + v.v6, 1108 * (v.v2 + v.v6), 3784 * v.v6, 1568 * v.v2, b2, b3,
   q1, q4, q6, q5, e0, e3, e1, e2, q4 + q5, r2, q4 - q5, r4,
   2048 * e0, 2048 * e1, 2048 * e2, 2048 * e3, 2048 * q1, 2048 * q6,
   2048 * e0 + 2048 * q1, 2048 * e1 + r2, 2048 * e2 + r4, 2048 * e3 + 2048 * q6,
   2048 * e3 - 2048 * q6, 2048 * e2 - r4, 2048 * e1 - r2, 2048 * e0 - 2048 * q1]

end Sys2Proof.SpecTables
end

