-- ==== Sys2Proof/Safety.lean ====
section
/-! DEFINITION. What holds of the machine whenever the host looks (between two commands), in the terms the claims use. -/

namespace Sys2Proof.Machine

/-- The registers of a direction once it is set up: `F = 1 << RSIZE` with `RSIZE` at most 6 and `F` in its range (10_state.md
R25, R26, 00_scope.md R7), and both
accumulators in `[-16 F, 16 F - 1]` (42_mvr.md R168). Nothing is asked while `VALID[d] = 0`. -/
structure Mvr.Wf (m : Mvr) : Prop where
  rSize_le : m.valid = true → m.rSize.toNat ≤ 6
  scale : m.valid = true → m.f.toNat = 2 ^ m.rSize.toNat
  scale_range : m.valid = true → m.f.toNat ∈ Config.fRange
  prevH_range : m.valid = true → -(16 * (m.f.toNat : Int)) ≤ m.prevH.toInt ∧ m.prevH.toInt ≤ 16 * (m.f.toNat : Int) - 1
  prevV_range : m.valid = true → -(16 * (m.f.toNat : Int)) ≤ m.prevV.toInt ∧ m.prevV.toInt ≤ 16 * (m.f.toNat : Int) - 1

/-- The error record: all zero before any error; after one, a kind the block can raise (10_state.md R30) and a position the
cursor had (60_exceptions.md R216). -/
structure State.ErrorWf (s : State) : Prop where
  clear : s.err = false → s.ecode = 0 ∧ s.eop = 0 ∧ s.epos = 0
  kind : s.err = true → s.ecode = 1 ∨ s.ecode = 2 ∨ s.ecode = 4 ∨ s.ecode = 5
  position : s.epos ≤ s.pos

/-- The invariant of the machine: the cursor within the stream (10_state.md R22), the coefficient buffer in canonical form,
both directions and the error record well formed. -/
structure State.Inv (s : State) : Prop where
  cursor : s.pos ≤ s.bs.length
  buffer : s.cb.wf = true
  forward : s.mvrF.Wf
  backward : s.mvrB.Wf
  errors : s.ErrorWf

/-- A state from which commands run: the invariant holds and no error has been raised (60_exceptions.md R216). -/
def State.Running (s : State) : Prop := s.Inv ∧ s.err = false

/-- The unread bits of the stream. -/
def State.unread (s : State) : Bits := s.bs.drop s.pos

/-- The commands of the VLD (00_scope.md R2), the codewords of its tables and the DC differential fields. -/
def isVld (i : Instr) : Bool :=
  match i.ctx with
  | .vlc _ => true
  | .dcDiff _ => true
  | .residual _ => false
  | .command =>
    match i with
    | .vldMba | .vldMbtI | .vldMbtP | .vldMbtB | .vldMbtD | .vldMv | .vldCbp | .vldDcl | .vldDcc | .vldDcd _
    | .vldAcf | .vldAcn => true
    | _ => false

/-- The commands of one MVR instance (42_mvr.md R160). -/
def isMvr (d : Dir) (i : Instr) : Bool :=
  match d, i with
  | .F, .mvrSetupF _ _ => true
  | .F, .mvrResetF => true
  | .F, .mvrCalcF _ _ _ _ => true
  | .B, .mvrSetupB _ _ => true
  | .B, .mvrResetB => true
  | .B, .mvrCalcB _ _ _ _ => true
  | _, _ => false

/-- The commands of the IDCT unit (43_idct.md R180). -/
def isIdct (i : Instr) : Bool :=
  match i with
  | .cbWr _ _ | .cbRd _ | .idctBlk => true
  | _ => false

end Sys2Proof.Machine
end

