-- ==== Sys2Proof/Certificates/Slice0/Obligations.lean ====
section
/-! DEFINITION. The statements for the provers, in the order of OBLIGATIONS.json. A machine statement gives the next state as
a whole: the fields it does not name are unchanged. -/

open Sys2Proof Sys2Proof.Machine Sys2Proof.SpecTables

/-! ## Reset and the step -/

/-- What the spec says of the state after reset (10_state.md R37, 70_reset_and_hazards.md R241). -/
def Obligations.ResetClearsValidStatusAndBuffer : Prop :=
  ∀ s : State, s = State.reset ∨ (∃ s0, s = resetEvent s0) →
    s.mvrF.valid = false ∧ s.mvrB.valid = false ∧ s.err = false ∧ s.ecode = 0 ∧ s.eop = 0 ∧ s.epos = 0 ∧
      (∀ i, s.cb.read i = none) ∧ statusWord s = 0

/-- The reset event leaves the Bit Reader's cursor and stream where they are and gives no response (70_reset_and_hazards.md
R240, R241), also when it cuts a command short (93_implementation_defined.md U19). That the cursor then stands where it
stood before the abandoned command is the model's reading (log entry 15). -/
def Obligations.ResetEventMovesNoCursor : Prop :=
  ∀ (s : State) (w : Word) (rest : List HostAction) (a : HostAction),
    a = .reset ∨ a = .resetDuring w → s.port = a :: rest →
      ∃ t, step s = .next t ∧ t.pos = s.pos ∧ t.bs = s.bs ∧ t.responses = s.responses ∧ t.port = rest ∧
        t.err = false ∧ t.mvrF.valid = false ∧ t.mvrB.valid = false ∧ t.cb = []

/-- A step whose next action is a command word runs the instruction the word decodes to, on the state with that action
taken, and nothing else happens around it. -/
def Obligations.StepRunsTheDecodedCommand : Prop :=
  (∀ (s : State) (w : Word) (rest : List HostAction) (i : Instr),
    s.port = .command w :: rest → decodeCommand w = .ok i → step s = exec i { s with port := rest }) ∧
  (∀ (s : State) (i : Instr) (rest : List HostAction),
    i.ctx = .command → s.port = .command (commandWord i) :: rest → step s = exec i { s with port := rest })

/-- A reserved opcode or selector raises `ProtocolError` with that word's opcode in `EOP`, before any bit is touched
(30_encoding.md R84 (a), (b)); in the error state it is refused like any command. -/
def Obligations.ReservedWordsRaiseProtocolError : Prop :=
  ∀ (s : State) (w : Word) (rest : List HostAction) (r : Reject),
    s.port = .command w :: rest → decodeCommand w = .error r →
      step s =
        .next (if s.err then { s with port := rest, responses := .err s.ecode :: s.responses }
          else { s with
            port := rest, op := w.extractLsb' 24 8, acc := 0, err := true, ecode := 5, eop := w.extractLsb' 24 8,
            epos := s.pos, responses := .err 5 :: s.responses })

/-- With no action of the host waiting, a step changes nothing (the model's choice, log entry 1). -/
def Obligations.IdleStepChangesNothing : Prop :=
  ∀ s : State, s.port = [] → step s = .next s

/-- The host's own reads (20_memory.md R52 to R56, R70): the value of the next bits, consumed or not; at the end of the stream
the host is told and the block records nothing; outside 1 to 32 bits the call is refused. -/
def Obligations.HostReadsFollowTheBitReaderContract : Prop :=
  ∀ (s : State) (rest : List HostAction) (n : Nat),
    (s.port = .bitRead n :: rest ∨ s.port = .bitPeek n :: rest ∨ s.port = .bitReadS n :: rest →
      n = 0 ∨ 32 < n → step s = .refused (.peekWidth n)) ∧
    (s.port = .bitRead n :: rest ∨ s.port = .bitPeek n :: rest ∨ s.port = .bitReadS n :: rest →
      1 ≤ n → n ≤ 32 → s.remaining < n →
      step s = .next { s with port := rest, responses := .hostEndOfStream :: s.responses }) ∧
    (∀ v : Nat, 1 ≤ n → n ≤ 32 → n ≤ s.remaining → v < 2 ^ n → s.unread.take n = code n v →
      (s.port = .bitRead n :: rest →
        step s = .next { s with port := rest, pos := s.pos + n, responses := .hostBits v :: s.responses }) ∧
      (s.port = .bitPeek n :: rest →
        step s = .next { s with port := rest, responses := .hostBits v :: s.responses }) ∧
      (s.port = .bitReadS n :: rest →
        step s = .next { s with
          port := rest, pos := s.pos + n,
          responses := .hostBits (if v < 2 ^ (n - 1) then (v : Int) else (v : Int) - 2 ^ n) :: s.responses }))

/-- The host's `IsByteAligned()` is true exactly when `pos mod 8 = 0` (20_memory.md R56). -/
def Obligations.HostAlignmentQueryReadsTheCursor : Prop :=
  ∀ (s : State) (rest : List HostAction), s.port = .isByteAligned :: rest →
    step s = .next { s with port := rest, responses := .hostAligned (decide (s.pos % 8 = 0)) :: s.responses }

/-- The motion residual fields: each is the host's read of its bits (30_encoding.md R102). That such a row is an instruction of
its own, that `exec` takes its bits as already decoded and answers them whatever stands at the cursor, and that it does so
whatever state the block is in, is the model's choice (log entries 8 and 19); the last clause ties it to the stream. -/
def Obligations.MotionResidualFieldsAreReadByTheHost : Prop :=
  ∀ (n r : Nat) (i : Instr) (s : State), residualField n r = some i → r < 2 ^ n →
    1 ≤ n ∧ n ≤ 6 ∧
    (i = .mvResidualRSize1 (BitVec.ofNat 1 r) ∨ i = .mvResidualRSize2 (BitVec.ofNat 2 r) ∨
      i = .mvResidualRSize3 (BitVec.ofNat 3 r) ∨ i = .mvResidualRSize4 (BitVec.ofNat 4 r) ∨
      i = .mvResidualRSize5 (BitVec.ofNat 5 r) ∨ i = .mvResidualRSize6 (BitVec.ofNat 6 r)) ∧
    (n ≤ s.remaining →
      exec i s = .next { s with pos := s.pos + n, responses := .hostBits r :: s.responses }) ∧
    (s.remaining < n → exec i s = .next { s with responses := .hostEndOfStream :: s.responses }) ∧
    (∀ rest, s.port = .bitRead n :: rest → s.unread.take n = code n r →
      step s = exec i { s with port := rest })

/-! ## Encodings -/

/-- Decoding the encoding of a well-formed instruction gives it back with the rest of the bits untouched, in the context it
belongs to; the rows and escapes `T_ACF` shares with `T_ACN` decode in both. -/
def Obligations.DecodeInvertsEncode : Prop :=
  (∀ (i : Instr) (rest : Bits), i.wellFormed = true → decode i.ctx (encode i ++ rest) = .ok i rest) ∧
  (∀ (i : Instr) (rest : Bits), i.wellFormed = true → i.ctx = .vlc .acn → i ≠ .tAcnEndOfBlock →
    (∀ b, i ≠ .tAcnRun0Level1Next b) → decode (.vlc .acf) (encode i ++ rest) = .ok i rest)

/-- What a table's decoder reads, the encoder writes back: no two bit strings decode to one codeword of a table. -/
def Obligations.EncodeInvertsVlcDecode : Prop :=
  ∀ (t : Table) (b rest : Bits) (i : Instr), decode (.vlc t) b = .ok i rest →
    b = encode i ++ rest ∧ i.wellFormed = true

/-- No code of a table is a leading part of another of the same table (30_encoding.md R85). -/
def Obligations.CodeTablesArePrefixFree : Prop :=
  ∀ t : Table, (t.rows.map Prod.fst).Pairwise fun a b => a.isPrefixOf b = false ∧ b.isPrefixOf a = false

/-- The Kraft sums of 30_encoding.md R86, over 2 to the table's width. -/
def Obligations.KraftSumsAreTheSpecs : Prop :=
  let sum (t : Table) : Nat := (t.rows.map fun r => 2 ^ (t.width - r.1.length)).sum
  sum .mba * 1024 = 1013 * 2 ^ 11 ∧ sum .mbtI * 4 = 3 * 2 ^ 2 ∧ sum .mbtP * 64 = 63 * 2 ^ 6 ∧
    sum .mbtB * 64 = 63 * 2 ^ 6 ∧ sum .mbtD * 2 = 1 * 2 ^ 1 ∧ sum .mv * 256 = 253 * 2 ^ 11 ∧
    sum .cbp * 256 = 255 * 2 ^ 9 ∧ sum .dcl * 128 = 127 * 2 ^ 7 ∧ sum .dcc * 256 = 255 * 2 ^ 8 ∧
    sum .acf * 4096 = 4095 * 2 ^ 17 ∧ sum .acn * 4096 = 4095 * 2 ^ 17

/-- The windows that match no row of a table are exactly those that begin with one of the listed bits, and every other window
matches exactly one row (30_encoding.md R103). -/
def Obligations.UnusedWindowsAreExactlyTheListed : Prop :=
  ∀ (t : Table) (w : Bits), w.length = t.width →
    (t.rows.filter fun r => r.1.isPrefixOf w).length =
      (if (unusedPrefixes t).any (fun p => p.isPrefixOf w) then 0 else 1)

/-- Bits of a command word the opcode map assigns to no operand are ignored (30_encoding.md R81). -/
def Obligations.UnassignedCommandBitsAreIgnored : Prop :=
  let assigned (op : Nat) : Word :=
    if op = 0x02 then 0xFF000007
    else if op = 0x07 then 0xFF00000F
    else if op = 0x10 ∨ op = 0x11 then 0xFF00000F
    else if op = 0x14 ∨ op = 0x15 then 0xFFFFFFFF
    else if op = 0x20 then 0xFF3FFFFF
    else if op = 0x21 then 0xFF3F0000
    else 0xFF000000
  ∀ w w' : Word, opcodeOf w = opcodeOf w' →
    w &&& assigned (opcodeOf w).toNat = w' &&& assigned (opcodeOf w).toNat → decodeCommand w = decodeCommand w'

/-- The opcodes of the map and the selectors of opcode 0x02 are the only ones that decode (30_encoding.md R82, R84). -/
def Obligations.ReservedOpcodesAndSelectorsAreRejected : Prop :=
  ∀ w : Word,
    (decodeCommand w = .error .reservedOpcode ↔
      (opcodeOf w).toNat ∉ [0x00, 0x01, 0x02, 0x03, 0x04, 0x05, 0x06, 0x07, 0x08, 0x09, 0x10, 0x11, 0x12, 0x13, 0x14, 0x15,
        0x20, 0x21, 0x22, 0x3F]) ∧
    (decodeCommand w = .error .reservedSelector ↔
      opcodeOf w = 0x02 ∧ (w.extractLsb' 0 3).toNat ∈ [0, 5, 6, 7])

/-- A few words of the spec's own vectors decode to the commands they stand for (95_test_vectors.md VT14, VR1, VR3, VI9; the
codes of VA3, VC9). -/
def Obligations.SpecWordsDecodeAsTheSpecSays : Prop :=
  decodeCommand 0x02FFFFFA = .ok .vldMbtP ∧
  decodeCommand 0x14040FC1 = .ok (.mvrCalcF 1 0 0x3F 1) ∧
  decodeCommand 0x1403F043 = .ok (.mvrCalcF 0 63 1 3) ∧
  decodeCommand 0x203FF800 = .ok (.cbWr 63 0xF800) ∧
  decode (.vlc .mba) (code 11 0b00000011000) = .ok .tMbaIncr33 [] ∧
  decode (.vlc .acf) (code 17 0b00000000000111110) = .ok (.tAcRun27Level1 false) []

/-! ## The bit port -/

/-- `BitPeek(n)`: none when fewer than `n` bits remain, else the number whose bit `n-1-i` is `BS[pos+i]` (20_memory.md R52);
`BitRead(n)` also consumes them, and consumes nothing when the peek fails (R54). -/
def Obligations.BitPeekIsBigEndianAndStrict : Prop :=
  ∀ (n : Nat) (s : State),
    (s.remaining < n → bitPeek n s = none ∧ bitRead n s = none) ∧
    (n ≤ s.remaining → ∃ w, bitPeek n s = some w ∧ w.length = n ∧
      bitsToNat w = ((List.range n).map fun i => (s.bs.getD (s.pos + i) false).toNat * 2 ^ (n - 1 - i)).sum ∧
      bitRead n s = some (bitsToNat w, { s with pos := s.pos + n }))

/-! ## The VLD -/

/-- Every codeword row of the macroblock layer, in a running block with its table's window in the stream, consumes its own
length and delivers its value; stuffing and escape leave the command going on. The lengths and values are those of 30_encoding.md
R88 to R95. That a row by itself is an instruction, its bits taken as already decoded and not compared with the stream, is the
model's choice (log entry 8), and so is the running increment it starts from, the field `acc` as it finds it (log entry 10). -/
def Obligations.MacroblockCodewordsDeliverTheirValues : Prop :=
  ∀ s : State, s.err = false →
    (11 ≤ s.remaining →
      (∀ r ∈ mbaIncrements, exec r.1 s = .next { s with
        pos := s.pos + r.2.1.length, acc := 0, responses := .mba (s.acc + r.2.2) :: s.responses }) ∧
      exec .tMbaStuffing s = .next { s with pos := s.pos + 11 } ∧
      exec .tMbaEscape s = .next { s with pos := s.pos + 11, acc := s.acc + 33 } ∧
      (∀ r ∈ motionCodes, exec r.1 s = .next { s with
        pos := s.pos + r.2.1.length, responses := .mv r.2.2 :: s.responses })) ∧
    (∀ r ∈ macroblockTypes, r.1.width ≤ s.remaining → exec r.2.1 s = .next { s with
      pos := s.pos + r.2.2.1.length, responses := .mbt r.2.2.2 :: s.responses }) ∧
    (9 ≤ s.remaining → ∀ r ∈ blockPatterns, exec r.1 s = .next { s with
      pos := s.pos + r.2.1.length, responses := .cbp r.2.2 :: s.responses })

/-- Every codeword row of the block layer does so too: sign bit 0 for the positive level, 1 for the negative one. The lengths and
values are those of 30_encoding.md R96 to R99. That a row by itself is an instruction whose bits are not compared with the stream
is the model's choice (log entry 8), and so is that a row of `T_AC` is one instruction for both AC tables (log entry 9). -/
def Obligations.BlockCodewordsDeliverTheirValues : Prop :=
  ∀ s : State, s.err = false →
    (∀ r ∈ dcSizes, r.1.width ≤ s.remaining → exec r.2.1 s = .next { s with
      pos := s.pos + r.2.2.1.length, responses := .dcSize r.2.2.2 :: s.responses }) ∧
    (17 ≤ s.remaining →
      (∀ r ∈ runLevels,
        exec (r.1 false) s = .next { s with
          pos := s.pos + r.2.1.length + 1, responses := .ac false false r.2.2.1 (r.2.2.2 : Int) :: s.responses } ∧
        exec (r.1 true) s = .next { s with
          pos := s.pos + r.2.1.length + 1, responses := .ac false false r.2.2.1 (-(r.2.2.2 : Int)) :: s.responses }) ∧
      (∀ b : Bool, exec (.tAcfRun0Level1First b) s = .next { s with
        pos := s.pos + 2, responses := .ac false false 0 (if b then -1 else 1) :: s.responses }) ∧
      (∀ b : Bool, exec (.tAcnRun0Level1Next b) s = .next { s with
        pos := s.pos + 3, responses := .ac false false 0 (if b then -1 else 1) :: s.responses }) ∧
      exec .tAcnEndOfBlock s = .next { s with pos := s.pos + 2, responses := .ac true false 0 0 :: s.responses })

/-- The three escape forms consume 20 or 28 bits and deliver run and level, forbidden levels included, since
`ESC_FORBIDDEN = pass` (the values of 30_encoding.md R100, R104). That a form by itself is an instruction whose bits are not
compared with the stream is the model's choice (log entry 8); the level bytes 0x00 and 0x80, which no short form has, are left out
of its clause (log entry 24). -/
def Obligations.EscapeCodewordsDeliverRunAndLevel : Prop :=
  ∀ (s : State) (run : BitVec 6) (m : BitVec 8), s.err = false →
    (20 ≤ s.remaining → m ≠ 0x00 → m ≠ 0x80 → exec (.tAcEscapeShort run m) s = .next { s with
      pos := s.pos + 20, responses := .ac false true run.toNat m.toInt :: s.responses }) ∧
    (28 ≤ s.remaining → exec (.tAcEscapeLongPos run m) s = .next { s with
      pos := s.pos + 28, responses := .ac false true run.toNat (m.toNat : Int) :: s.responses }) ∧
    (28 ≤ s.remaining → exec (.tAcEscapeLongNeg run m) s = .next { s with
      pos := s.pos + 28, responses := .ac false true run.toNat ((m.toNat : Int) - 256) :: s.responses })

/-- `VLD.MBT.*`, `VLD.MV`, `VLD.CBP`, `VLD.DCL`, `VLD.DCC` on a stream that begins with a row's code and holds the peeked window
answer the row's value and advance the cursor by the code's length (R122 to R127, R140, R141). -/
def Obligations.TableCommandsDecodeTheCodeTheyFind : Prop :=
  ∀ (s : State) (rest : Bits), s.err = false →
    (∀ r ∈ macroblockTypes, ∀ c ∈ tableCommands, c.2.2.1 = r.1 → s.unread = r.2.2.1 ++ rest → c.2.2.2 ≤ s.remaining →
      exec c.1 s = .next { s with
        pos := s.pos + r.2.2.1.length, op := 0x02, acc := 0, responses := .mbt r.2.2.2 :: s.responses }) ∧
    (∀ r ∈ motionCodes, s.unread = r.2.1 ++ rest → 11 ≤ s.remaining →
      exec .vldMv s = .next { s with
        pos := s.pos + r.2.1.length, op := 0x03, acc := 0, responses := .mv r.2.2 :: s.responses }) ∧
    (∀ r ∈ blockPatterns, s.unread = r.2.1 ++ rest → 9 ≤ s.remaining →
      exec .vldCbp s = .next { s with
        pos := s.pos + r.2.1.length, op := 0x04, acc := 0, responses := .cbp r.2.2 :: s.responses }) ∧
    (∀ r ∈ dcSizes, ∀ c ∈ tableCommands, c.2.2.1 = r.1 → s.unread = r.2.2.1 ++ rest → c.2.2.2 ≤ s.remaining →
      exec c.1 s = .next { s with
        pos := s.pos + r.2.2.1.length, op := c.2.1, acc := 0, responses := .dcSize r.2.2.2 :: s.responses })

/-- `VLD.MBA` absorbs any stuffing and escape codes, in any order, then decodes one increment: 33 for every escape, wherever it
stands, plus the increment's value (40_vld_macroblock.md R121). -/
def Obligations.MbaSumsEscapesAndTheIncrement : Prop :=
  ∀ (s : State) (skips : List Bool) (rest : Bits), s.err = false → ∀ r ∈ mbaIncrements,
    s.unread = skips.flatMap mbaSkip ++ (r.2.1 ++ rest) → 11 ≤ (r.2.1 ++ rest).length →
      exec .vldMba s = .next { s with
        pos := s.pos + 11 * skips.length + r.2.1.length, op := 0x01, acc := 0,
        responses := .mba (33 * skips.count true + r.2.2) :: s.responses }

/-- When `VLD.MBA` meets the end of the stream or an unused window after stuffing and escape codes, those stay consumed and
`EPOS` is the first bit of the item that could not be decoded (20_memory.md R71, 60_exceptions.md R218). -/
def Obligations.MbaKeepsWhatItSkippedWhenItFails : Prop :=
  ∀ (s : State) (skips : List Bool) (rest : Bits), s.err = false → s.unread = skips.flatMap mbaSkip ++ rest →
    ∀ k : BitVec 3,
      (rest.length < 11 ∧ k = 1) ∨
        (11 ≤ rest.length ∧ k = 2 ∧ (unusedPrefixes .mba).any (fun p => p.isPrefixOf rest) = true) →
      ∃ t, exec .vldMba s = .next t ∧ t.pos = s.pos + 11 * skips.length ∧ t.err = true ∧ t.ecode = k ∧ t.eop = 0x01 ∧
        t.epos = s.pos + 11 * skips.length ∧ t.responses = .err k :: s.responses ∧ t.mvrF = s.mvrF ∧ t.mvrB = s.mvrB ∧
        t.cb = s.cb ∧ t.bs = s.bs ∧ t.port = s.port

/-- `VLD.DCD` reads `size` bits and converts them (41_vld_block.md R142, 30_encoding.md R101); `size = 0` reads nothing and gives
0; `size` above 8 is `ProtocolError` before any bit is read. The field rows do the same with their own bits. -/
def Obligations.DcDifferentialIsSignExtendedFromItsTopBit : Prop :=
  ∀ (s : State) (size : BitVec 4) (raw : Nat) (rest : Bits), s.err = false → raw < 2 ^ size.toNat →
    (size = 0 → exec (.vldDcd size) s = .next { s with op := 0x07, acc := 0, responses := .dcDiff 0 :: s.responses }) ∧
    (1 ≤ size.toNat → size.toNat ≤ 8 → s.unread = code size.toNat raw ++ rest →
      exec (.vldDcd size) s = .next { s with
        pos := s.pos + size.toNat, op := 0x07, acc := 0,
        responses := .dcDiff (if 2 ^ (size.toNat - 1) ≤ raw then (raw : Int) else (raw : Int) + 1 - 2 ^ size.toNat) ::
          s.responses }) ∧
    (8 < size.toNat → exec (.vldDcd size) s = .next { s with
      op := 0x07, acc := 0, err := true, ecode := 5, eop := 0x07, epos := s.pos, responses := .err 5 :: s.responses }) ∧
    (1 ≤ size.toNat → size.toNat ≤ 8 → s.remaining < size.toNat → exec (.vldDcd size) s = .next { s with
      op := 0x07, acc := 0, err := true, ecode := 1, eop := 0x07, epos := s.pos, responses := .err 1 :: s.responses })

/-- The DC differential fields as instructions: each consumes its bits and delivers the converted value (the value of
30_encoding.md R101). That a field by itself is an instruction, delivered whatever bits stand at the cursor, is the model's choice
(log entries 8 and 20). -/
def Obligations.DcDifferentialFieldsDeliverTheirValues : Prop :=
  let value (size raw : Nat) : Int := if 2 ^ (size - 1) ≤ raw then (raw : Int) else (raw : Int) + 1 - 2 ^ size
  let result (s : State) (size raw : Nat) : Outcome :=
    .next { s with pos := s.pos + size, responses := .dcDiff (value size raw) :: s.responses }
  ∀ s : State, s.err = false →
    (∀ d : BitVec 1, 1 ≤ s.remaining → exec (.dcDiffSize1 d) s = result s 1 d.toNat) ∧
    (∀ d : BitVec 2, 2 ≤ s.remaining → exec (.dcDiffSize2 d) s = result s 2 d.toNat) ∧
    (∀ d : BitVec 3, 3 ≤ s.remaining → exec (.dcDiffSize3 d) s = result s 3 d.toNat) ∧
    (∀ d : BitVec 4, 4 ≤ s.remaining → exec (.dcDiffSize4 d) s = result s 4 d.toNat) ∧
    (∀ d : BitVec 5, 5 ≤ s.remaining → exec (.dcDiffSize5 d) s = result s 5 d.toNat) ∧
    (∀ d : BitVec 6, 6 ≤ s.remaining → exec (.dcDiffSize6 d) s = result s 6 d.toNat) ∧
    (∀ d : BitVec 7, 7 ≤ s.remaining → exec (.dcDiffSize7 d) s = result s 7 d.toNat) ∧
    (∀ d : BitVec 8, 8 ≤ s.remaining → exec (.dcDiffSize8 d) s = result s 8 d.toNat)

/-- `VLD.ACF` and `VLD.ACN` on a stream that begins with a run/level code and holds 17 bits (41_vld_block.md R143, R144): `1s` is
(0, ±1) only for the first coefficient; `10` is end of block and `11s` is (0, ±1) for the others. -/
def Obligations.AcCommandsDecodeRunAndLevel : Prop :=
  ∀ (s : State) (rest : Bits) (b : Bool), s.err = false → 17 ≤ s.remaining →
    (∀ r ∈ runLevels, s.unread = r.2.1 ++ b :: rest →
      exec .vldAcf s = .next { s with
        pos := s.pos + r.2.1.length + 1, op := 0x08, acc := 0,
        responses := .ac false false r.2.2.1 (if b then -(r.2.2.2 : Int) else (r.2.2.2 : Int)) :: s.responses } ∧
      exec .vldAcn s = .next { s with
        pos := s.pos + r.2.1.length + 1, op := 0x09, acc := 0,
        responses := .ac false false r.2.2.1 (if b then -(r.2.2.2 : Int) else (r.2.2.2 : Int)) :: s.responses }) ∧
    (s.unread = true :: b :: rest → exec .vldAcf s = .next { s with
      pos := s.pos + 2, op := 0x08, acc := 0,
      responses := .ac false false 0 (if b then -1 else 1) :: s.responses }) ∧
    (s.unread = true :: false :: rest → exec .vldAcn s = .next { s with
      pos := s.pos + 2, op := 0x09, acc := 0, responses := .ac true false 0 0 :: s.responses }) ∧
    (s.unread = true :: true :: b :: rest → exec .vldAcn s = .next { s with
      pos := s.pos + 3, op := 0x09, acc := 0,
      responses := .ac false false 0 (if b then -1 else 1) :: s.responses })

/-- `VLD.ACF` and `VLD.ACN` on an escape: 6 bits of run, then the level in 8 or 16 bits (41_vld_block.md R145, 30_encoding.md
R100). -/
def Obligations.AcCommandsDecodeEscapes : Prop :=
  ∀ (s : State) (run : BitVec 6) (m : BitVec 8) (rest : Bits), s.err = false →
    ∀ c ∈ [(Instr.vldAcf, 0x08#8), (Instr.vldAcn, 0x09#8)],
      (m ≠ 0x00 → m ≠ 0x80 → s.unread = code 6 0b000001 ++ code 6 run.toNat ++ code 8 m.toNat ++ rest →
        exec c.1 s = .next { s with
          pos := s.pos + 20, op := c.2, acc := 0, responses := .ac false true run.toNat m.toInt :: s.responses }) ∧
      (s.unread = code 6 0b000001 ++ code 6 run.toNat ++ code 8 0x00 ++ code 8 m.toNat ++ rest →
        exec c.1 s = .next { s with
          pos := s.pos + 28, op := c.2, acc := 0, responses := .ac false true run.toNat (m.toNat : Int) :: s.responses }) ∧
      (s.unread = code 6 0b000001 ++ code 6 run.toNat ++ code 8 0x80 ++ code 8 m.toNat ++ rest →
        exec c.1 s = .next { s with
          pos := s.pos + 28, op := c.2, acc := 0,
          responses := .ac false true run.toNat ((m.toNat : Int) - 256) :: s.responses })

/-- An escape the stream is too short for: what the earlier reads of the command consumed stays consumed, and `EPOS` is where
the failing read stood (20_memory.md R71; the vectors VC22 and VC23). -/
def Obligations.TruncatedEscapeKeepsTheFieldsItRead : Prop :=
  ∀ (s : State) (rest : Bits), s.err = false → ∀ c ∈ [(Instr.vldAcf, 0x08#8), (Instr.vldAcn, 0x09#8)],
    ∀ (run : BitVec 6) (lv : BitVec 8),
      (s.unread = code 6 0b000001 ++ code 6 run.toNat ++ rest → 5 ≤ rest.length → rest.length < 8 →
        exec c.1 s = .next { s with
          pos := s.pos + 12, op := c.2, acc := 0, err := true, ecode := 1, eop := c.2, epos := s.pos + 12,
          responses := .err 1 :: s.responses }) ∧
      (lv = 0x00 ∨ lv = 0x80 → s.unread = code 6 0b000001 ++ code 6 run.toNat ++ code 8 lv.toNat ++ rest →
        rest.length < 8 →
        exec c.1 s = .next { s with
          pos := s.pos + 20, op := c.2, acc := 0, err := true, ecode := 1, eop := c.2, epos := s.pos + 20,
          responses := .err 1 :: s.responses })

/-- Every command that decodes a table raises `UnexpectedEndOfStream` when fewer bits remain than it peeks, even if a shorter
code is there, and consumes nothing (20_memory.md R52, 60_exceptions.md R211). -/
def Obligations.ShortWindowRaisesEndOfStream : Prop :=
  ∀ (s : State), s.err = false → ∀ c ∈ tableCommands, s.remaining < c.2.2.2 →
    exec c.1 s = .next { s with
      op := c.2.1, acc := 0, err := true, ecode := 1, eop := c.2.1, epos := s.pos, responses := .err 1 :: s.responses }

/-- Every command that decodes a table raises `InvalidVlcCode` on a window that matches no row and consumes nothing
(30_encoding.md R88, R103, 60_exceptions.md R212). -/
def Obligations.UnusedWindowRaisesInvalidVlcCode : Prop :=
  ∀ (s : State), s.err = false → ∀ c ∈ tableCommands, c.2.2.2 ≤ s.remaining →
    (unusedPrefixes c.2.2.1).any (fun p => p.isPrefixOf s.unread) = true →
    exec c.1 s = .next { s with
      op := c.2.1, acc := 0, err := true, ecode := 2, eop := c.2.1, epos := s.pos, responses := .err 2 :: s.responses }

/-- A VLD command, codeword or DC field changes the cursor and, on an error, the error record: no MVR register, no
coefficient, not the stream (40_vld_macroblock.md R120). -/
def Obligations.VldLeavesMvrAndBufferAlone : Prop :=
  ∀ (i : Instr) (s t : State), isVld i = true → exec i s = .next t →
    t.mvrF = s.mvrF ∧ t.mvrB = s.mvrB ∧ t.cb = s.cb ∧ t.bs = s.bs ∧ t.port = s.port ∧ s.pos ≤ t.pos ∧
      (t.err = s.err → t.ecode = s.ecode ∧ t.eop = s.eop ∧ t.epos = s.epos)

/-- What a VLD command, codeword or DC field does does not depend on MVR registers or coefficients (40_vld_macroblock.md
R120). -/
def Obligations.VldReadsNoMvrAndNoBuffer : Prop :=
  ∀ (i : Instr) (s t : State) (f b : Mvr) (c : Memory), isVld i = true → exec i s = .next t →
    exec i { s with mvrF := f, mvrB := b, cb := c } = .next { t with mvrF := f, mvrB := b, cb := c }

/-! ## The MVR -/

/-- `MVR.SETUP.d` with a legal f-code (42_mvr.md R161, R162): `r_size = f_code - 1`, `f = 2^r_size`, the flag, both accumulators
zero, valid; the other direction untouched. -/
def Obligations.MvrSetupLoadsTheScale : Prop :=
  ∀ (s : State) (fullPel : Bool) (fCode : BitVec 3), s.err = false → fCode ≠ 0 →
    ∃ m : Mvr, m.rSize.toNat = fCode.toNat - 1 ∧ m.f.toNat = 2 ^ (fCode.toNat - 1) ∧ m.f.toNat ∈ Config.fRange ∧
      m.fullPel = fullPel ∧ m.prevH = 0 ∧ m.prevV = 0 ∧ m.valid = true ∧
      exec (.mvrSetupF fullPel fCode) s = .next { s with
        mvrF := m, op := 0x10, acc := 0, responses := .setup m.f m.rSize :: s.responses } ∧
      exec (.mvrSetupB fullPel fCode) s = .next { s with
        mvrB := m, op := 0x11, acc := 0, responses := .setup m.f m.rSize :: s.responses }

/-- An f-code of 0 raises `InvalidFCode`; no MVR register is written (60_exceptions.md R213). -/
def Obligations.ZeroFCodeRaisesInvalidFCode : Prop :=
  ∀ (s : State) (fullPel : Bool), s.err = false →
    exec (.mvrSetupF fullPel 0) s = .next { s with
      op := 0x10, acc := 0, err := true, ecode := 4, eop := 0x10, epos := s.pos, responses := .err 4 :: s.responses } ∧
    exec (.mvrSetupB fullPel 0) s = .next { s with
      op := 0x11, acc := 0, err := true, ecode := 4, eop := 0x11, epos := s.pos, responses := .err 4 :: s.responses }

/-- `MVR.RESET.d` zeroes the two accumulators of its direction and changes no other register, valid or not; in the error
state it is refused (42_mvr.md R163, R164). -/
def Obligations.MvrResetZeroesTheAccumulators : Prop :=
  (∀ w : Word, (w.extractLsb' 24 8 = 0x12#8 → decodeCommand w = .ok .mvrResetF) ∧
    (w.extractLsb' 24 8 = 0x13#8 → decodeCommand w = .ok .mvrResetB)) ∧
  (∀ s : State, s.err = true →
    exec .mvrResetF s = .next { s with responses := .err s.ecode :: s.responses } ∧
    exec .mvrResetB s = .next { s with responses := .err s.ecode :: s.responses }) ∧
  ∀ s : State, s.err = false →
    exec .mvrResetF s = .next { s with
      mvrF := { s.mvrF with prevH := 0, prevV := 0 }, op := 0x12, acc := 0, responses := .ok :: s.responses } ∧
    exec .mvrResetB s = .next { s with
      mvrB := { s.mvrB with prevH := 0, prevV := 0 }, op := 0x13, acc := 0, responses := .ok :: s.responses }

/-- The per-axis function wraps modulo `32 f` (42_mvr.md R165, R168, 45_arithmetic_and_control.md R206 (e)): for a scale and a
predictor in range and legal operands, the result is the one integer in `[-16 f, 16 f - 1]` congruent to the sum. -/
def Obligations.MvAxisWrapsIntoTheRange : Prop :=
  ∀ (k r : Nat) (code prev : Int), k ≤ 6 → -16 ≤ code → code ≤ 16 →
    -(16 * 2 ^ k) ≤ prev → prev ≤ 16 * 2 ^ k - 1 → (k = 0 ∨ code = 0 ∨ r < 2 ^ k) →
      ∃ new : Int, mvAxis (2 ^ k) code r prev = some new ∧ -(16 * 2 ^ k) ≤ new ∧ new ≤ 16 * 2 ^ k - 1 ∧
        (32 * 2 ^ k : Int) ∣ new - (prev + motionDelta (2 ^ k) code r)

/-- `MVR.CALC.d` on a set-up direction with legal codes and residuals (42_mvr.md R166, R167, R169): each accumulator becomes the
wrapped sum, and the response holds the displacements split from the new accumulators. -/
def Obligations.MvrCalcReconstructsTheVector : Prop :=
  ∀ (s : State) (d : Dir) (ch rh cv rv : BitVec 6), s.err = false →
    let m := s.mvr d
    m.Wf → m.valid = true → -16 ≤ ch.toInt → ch.toInt ≤ 16 → -16 ≤ cv.toInt → cv.toInt ≤ 16 →
    (m.f = 1 ∨ ch = 0 ∨ rh.toNat < m.f.toNat) → (m.f = 1 ∨ cv = 0 ∨ rv.toNat < m.f.toNat) →
    ∃ m' : Mvr,
      (32 * (m.f.toNat : Int)) ∣ m'.prevH.toInt - (m.prevH.toInt + motionDelta m.f.toNat ch.toInt rh.toNat) ∧
      (32 * (m.f.toNat : Int)) ∣ m'.prevV.toInt - (m.prevV.toInt + motionDelta m.f.toNat cv.toInt rv.toNat) ∧
      m'.Wf ∧ m'.f = m.f ∧ m'.rSize = m.rSize ∧ m'.fullPel = m.fullPel ∧ m'.valid = true ∧
      (d = .F → exec (.mvrCalcF ch rh cv rv) s = .next { s with
        mvrF := m', op := 0x14, acc := 0,
        responses := .vector (displacement m.fullPel m'.prevH.toInt) (displacement m.fullPel m'.prevV.toInt) ::
          s.responses }) ∧
      (d = .B → exec (.mvrCalcB ch rh cv rv) s = .next { s with
        mvrB := m', op := 0x15, acc := 0,
        responses := .vector (displacement m.fullPel m'.prevH.toInt) (displacement m.fullPel m'.prevV.toInt) ::
          s.responses })

/-- `MVR.CALC.d` before set-up, with a code outside -16..16, or with a used residual not below the scale, raises
`ProtocolError` and writes no accumulator (42_mvr.md R166, 60_exceptions.md R215 (d) to (f)). -/
def Obligations.MvrCalcMisuseRaisesProtocolError : Prop :=
  ∀ (s : State) (d : Dir) (ch rh cv rv : BitVec 6), s.err = false →
    let m := s.mvr d
    (m.valid = false ∨ ch.toInt < -16 ∨ 16 < ch.toInt ∨ cv.toInt < -16 ∨ 16 < cv.toInt ∨
      (m.f ≠ 1 ∧ ch ≠ 0 ∧ m.f.toNat ≤ rh.toNat) ∨ (m.f ≠ 1 ∧ cv ≠ 0 ∧ m.f.toNat ≤ rv.toNat)) →
    (d = .F → exec (.mvrCalcF ch rh cv rv) s = .next { s with
      op := 0x14, acc := 0, err := true, ecode := 5, eop := 0x14, epos := s.pos, responses := .err 5 :: s.responses }) ∧
    (d = .B → exec (.mvrCalcB ch rh cv rv) s = .next { s with
      op := 0x15, acc := 0, err := true, ecode := 5, eop := 0x15, epos := s.pos, responses := .err 5 :: s.responses })

/-- The displacement fields (42_mvr.md R169): the identities, the ranges for an accumulator in range, and where the two
settings of `CHROMA_HALVE` differ. -/
def Obligations.DisplacementFieldsRecombine : Prop :=
  ∀ (fullPel : Bool) (new : Int),
    let o := outputs fullPel new
    let tr := outputsWith .trunc fullPel new
    o = displacement fullPel new ∧
    o.l = 2 * o.lfull + (if o.lhalf then 1 else 0) ∧ o.c = 2 * o.cfull + (if o.chalf then 1 else 0) ∧ o.c = o.lfull ∧
    tr.l = o.l ∧ tr.lfull = o.lfull ∧ tr.lhalf = o.lhalf ∧ tr.c = o.l.sign * (|o.l| / 2) ∧
    tr.c = 2 * tr.cfull + (if tr.chalf then 1 else 0) ∧ (tr.c = o.c ↔ ¬ (o.l < 0 ∧ o.l % 2 = 1)) ∧ (o.l < 0 ∧ o.l % 2 = 1 → tr.c = o.c + 1) ∧
    (fullPel = true → o.lhalf = false ∧ tr = o) ∧
    (-1024 ≤ new → new ≤ 1023 →
      -2048 ≤ o.l ∧ o.l ≤ 2046 ∧ -1024 ≤ o.lfull ∧ o.lfull ≤ 1023 ∧ -512 ≤ o.cfull ∧ o.cfull ≤ 511)

/-- The commands of one direction neither read nor write a register of the other, and touch neither the stream, the cursor nor
the coefficients (10_state.md R29, 42_mvr.md R160). -/
def Obligations.MvrDirectionsAreIndependent : Prop :=
  ∀ (i : Instr) (s t : State) (m : Mvr), exec i s = .next t →
    (isMvr .F i = true → t.mvrB = s.mvrB ∧ t.pos = s.pos ∧ t.bs = s.bs ∧ t.cb = s.cb ∧ t.port = s.port ∧
      exec i { s with mvrB := m } = .next { t with mvrB := m }) ∧
    (isMvr .B i = true → t.mvrF = s.mvrF ∧ t.pos = s.pos ∧ t.bs = s.bs ∧ t.cb = s.cb ∧ t.port = s.port ∧
      exec i { s with mvrF := m } = .next { t with mvrF := m })

/-! ## The IDCT unit -/

/-- `CB.WR` stores its 16 bits in its entry, unchecked; every other entry reads as before and the canonical form is kept
(43_idct.md R181). -/
def Obligations.CbWrStoresOneEntry : Prop :=
  ∀ (s : State) (idx : BitVec 6) (v : BitVec 16), s.err = false →
    ∃ cb : Memory, exec (.cbWr idx v) s = .next { s with cb := cb, op := 0x20, acc := 0, responses := .ok :: s.responses } ∧
      cb.read idx.toNat = some v ∧ (∀ j, j ≠ idx.toNat → cb.read j = s.cb.read j) ∧ (s.cb.wf = true → cb.wf = true)

/-- `CB.RD` returns a written entry and changes nothing; an entry nothing has written is refused (43_idct.md R182,
93_implementation_defined.md U4). -/
def Obligations.CbRdReturnsTheEntry : Prop :=
  ∀ (s : State) (idx : BitVec 6), s.err = false →
    (∀ v, s.cb.read idx.toNat = some v →
      exec (.cbRd idx) s = .next { s with op := 0x21, acc := 0, responses := .value v :: s.responses }) ∧
    (s.cb.read idx.toNat = none → exec (.cbRd idx) s = .refused (.coefficientUnwritten idx.toNat))

/-- `IDCT.BLK` on 64 written coefficients in range (43_idct.md R183, R187, R188): the row pass makes `T` of the coefficients with
the spec's matrix and a shift of 19, the column pass the residuals of `T` with a shift of 28, each sum rounded once; every entry
then holds its residual, not clamped, which fits its 16 bits (R189). The residuals are those of the model's `idct2d`, of which
the statements below speak. -/
def Obligations.IdctBlkTransformsTheBuffer : Prop :=
  ∀ (s : State) (c : Fin 8 → Fin 8 → BitVec 16), s.err = false →
    (∀ y x : Fin 8, s.cb.read (8 * y + x) = some (c y x) ∧ -2048 ≤ (c y x).toInt ∧ (c y x).toInt ≤ 2047) →
    ∃ (cb : Memory) (T : Fin 8 → Fin 8 → Int),
      exec .idctBlk s = .next { s with cb := cb, op := 0x22, acc := 0, responses := .ok :: s.responses } ∧ cb.wf = true ∧
      (∀ r n : Fin 8, T r n = nearestAway (∑ k : Fin 8, kernelEntry n k * (c r k).toInt) 19) ∧
      ∀ n x : Fin 8, ∃ o : BitVec 16, cb.read (8 * n + x) = some o ∧
        o.toInt = nearestAway (∑ k : Fin 8, kernelEntry n k * T k x) 28 ∧
        ((blockOf s.cb).get n).get x = (c n x).toInt ∧ o.toInt = ((idct2d (blockOf s.cb)).get n).get x

/-- `IDCT.BLK` with every entry written and one out of range raises `ProtocolError` and leaves `CB` as it is (43_idct.md R183);
with an entry never written it is refused (93_implementation_defined.md U4). -/
def Obligations.IdctBlkRejectsBadBlocks : Prop :=
  ∀ s : State, s.err = false →
    ((∀ i, i < 64 → s.cb.read i ≠ none) →
      (∃ i v, i < 64 ∧ s.cb.read i = some v ∧ (v.toInt < -2048 ∨ 2047 < v.toInt)) →
      exec .idctBlk s = .next { s with
        op := 0x22, acc := 0, err := true, ecode := 5, eop := 0x22, epos := s.pos, responses := .err 5 :: s.responses }) ∧
    (∀ i, i < 64 → s.cb.read i = none → (∀ j, j < i → s.cb.read j ≠ none) →
      exec .idctBlk s = .refused (.coefficientUnwritten i))

/-- Rounding to nearest, ties away from zero, odd-symmetric (00_scope.md R14). -/
def Obligations.RndShiftRoundsToNearestTiesAway : Prop :=
  ∀ (v : Int) (s : Nat), 1 ≤ s →
    rndShift v s = v.sign * ((|v| + 2 ^ (s - 1)) / 2 ^ s) ∧
    2 * |v - rndShift v s * 2 ^ s| ≤ 2 ^ s ∧
    (2 * |v - rndShift v s * 2 ^ s| = 2 ^ s → |v| < |rndShift v s * 2 ^ s|) ∧
    rndShift (-v) s = -rndShift v s

/-- The butterfly network is the integer matrix (43_idct.md R187), for all integer inputs. -/
def Obligations.ButterflyIsTheKernelMatrix : Prop :=
  ∀ v : Vec8 Int, (butterfly v).toList =
    kernelMatrix.map fun row => (List.zipWith (· * ·) row v.toList).sum

/-- The bounds of 43_idct.md R189: for coefficients in [-2048, 2047] the row pass stays within 122424 and the residuals within
14293, and the blocks of 64 entries -2048 and 2047 give -14293 and 14286. For the inputs of either pass no product or sum of the
network leaves 43 bits, so none leaves the `ACC_W` bits of an accumulator (00_scope.md R7). -/
def Obligations.IdctOutputsAreBounded : Prop :=
  (∀ b : Block, (∀ y x : Fin 8, -2048 ≤ (b.get y).get x ∧ (b.get y).get x ≤ 2047) →
    ∀ y x : Fin 8, |((rowPass Config.idct1d b).get y).get x| ≤ 122424 ∧ |((idct2d b).get y).get x| ≤ 14293) ∧
  (let row : Vec8 Int := ⟨-2048, -2048, -2048, -2048, -2048, -2048, -2048, -2048⟩
   ((idct2d ⟨row, row, row, row, row, row, row, row⟩).get 0).get 0 = -14293) ∧
  (let row : Vec8 Int := ⟨2047, 2047, 2047, 2047, 2047, 2047, 2047, 2047⟩
   ((idct2d ⟨row, row, row, row, row, row, row, row⟩).get 0).get 0 = 14286) ∧
  (∀ v : Vec8 Int, (∀ k : Fin 8, |v.get k| ≤ 122424) →
    (∀ y ∈ (butterfly v).toList, y ∈ kernelIntermediates v) ∧
    ∀ x ∈ kernelIntermediates v,
      (-2 ^ 42 ≤ x ∧ x < 2 ^ 42) ∧ -2 ^ (Config.accW - 1) ≤ x ∧ x < 2 ^ (Config.accW - 1))

/-- Negating every coefficient negates every residual, for the kernel the spec takes (43_idct.md R183) and for every kernel that is
linear before rounding (R191); the kernel the spec takes is. -/
def Obligations.IdctIsOddSymmetric : Prop :=
  (∀ b : Block, idct2d (b.map fun r => r.map fun v => -v) = (idct2d b).map fun r => r.map fun v => -v) ∧
  Config.idct1d.Admissible ∧
  ∀ (k : Config.Kernel), k.Admissible →
    (∀ (shift : Nat) (v : Vec8 Int), k.run shift (v.map fun x => -x) = (k.run shift v).map fun x => -x) ∧
    ∀ b : Block, idctWith k (b.map fun r => r.map fun v => -v) = (idctWith k b).map fun r => r.map fun v => -v

/-- A block with only its DC entry becomes the uniform block of `d / 8` rounded, ties away from zero (43_idct.md R190). -/
def Obligations.DcOnlyBlockBecomesUniform : Prop :=
  ∀ d : Int,
    let zero : Vec8 Int := ⟨0, 0, 0, 0, 0, 0, 0, 0⟩
    let b : Block := ⟨⟨d, 0, 0, 0, 0, 0, 0, 0⟩, zero, zero, zero, zero, zero, zero, zero⟩
    (∀ x : Fin 8, ((rowPass Config.idct1d b).get 0).get x = 8 * d) ∧
      (∀ y x : Fin 8, y ≠ 0 → ((rowPass Config.idct1d b).get y).get x = 0) ∧
      ∀ y x : Fin 8, ((idct2d b).get y).get x = rndShift d 3

/-- The commands of the IDCT unit touch neither the cursor, the stream nor an MVR register; `CB.RD` leaves the buffer too
(43_idct.md R180, R182). -/
def Obligations.IdctUnitLeavesCursorAndMvrAlone : Prop :=
  ∀ (i : Instr) (s t : State), isIdct i = true → exec i s = .next t →
    t.pos = s.pos ∧ t.bs = s.bs ∧ t.mvrF = s.mvrF ∧ t.mvrB = s.mvrB ∧ t.port = s.port ∧
      ((∃ idx, i = .cbRd idx) → t.cb = s.cb)

/-! ## The system commands -/

/-- `NOP` answers `OK` and does nothing; in the error state it is refused (44_system.md R200). Any word with opcode 0 is
`NOP`. -/
def Obligations.NopDoesNothing : Prop :=
  (∀ w : Word, w.extractLsb' 24 8 = 0x00#8 → decodeCommand w = .ok .nop) ∧
  (∀ s : State, s.err = false → exec .nop s = .next { s with op := 0x00, acc := 0, responses := .ok :: s.responses }) ∧
  (∀ s : State, s.err = true → exec .nop s = .next { s with responses := .err s.ecode :: s.responses })

/-- `STATUS` answers in every state, changes nothing, and its word holds the fields where 10_state.md R30 puts them
(44_system.md R201); before any error its low 12 bits and the error position are 0. Any word with opcode 0x3F is `STATUS`. -/
def Obligations.StatusReportsTheFields : Prop :=
  (∀ w : Word, w.extractLsb' 24 8 = 0x3F#8 → decodeCommand w = .ok .status) ∧
  ∀ s : State, ∃ w : BitVec 32,
    exec .status s = .next { s with responses := .status w s.epos :: s.responses } ∧
    w.getLsbD 0 = s.err ∧ w.extractLsb' 1 3 = s.ecode ∧ w.extractLsb' 4 8 = s.eop ∧
    w.getLsbD 12 = s.mvrF.valid ∧ w.getLsbD 13 = s.mvrB.valid ∧
    w.extractLsb' 14 3 = (if s.mvrF.valid then s.mvrF.rSize else 0) ∧
    w.extractLsb' 17 3 = (if s.mvrB.valid then s.mvrB.rSize else 0) ∧
    w.getLsbD 20 = (s.mvrF.valid && s.mvrF.fullPel) ∧ w.getLsbD 21 = (s.mvrB.valid && s.mvrB.fullPel) ∧
    w.extractLsb' 22 10 = 0 ∧ (s.Inv → s.err = false → w.extractLsb' 0 12 = 0 ∧ s.epos = 0)

/-! ## Errors -/

/-- In the error state every command but `STATUS` is answered `ERR` with the first error's code and changes nothing else
(60_exceptions.md R216). R216 speaks of commands: that a codeword or DC field by itself is answered so too is the model's choice
(log entry 8), and so is that a motion residual field, which the host reads, is not (log entry 19). -/
def Obligations.ErrorStateRefusesEverythingButStatus : Prop :=
  ∀ (i : Instr) (s : State), i ≠ .status → (∀ n, i.ctx ≠ .residual n) → s.err = true →
    exec i s = .next { s with responses := .err s.ecode :: s.responses }

/-- A command that raises the first error records its kind, its own opcode and the cursor as it then stands, answers `ERR` with
that kind, and writes no MVR register and no coefficient (60_exceptions.md R216, R218). -/
def Obligations.FirstErrorIsRecordedPrecisely : Prop :=
  ∀ (i : Instr) (s t : State), i.ctx = .command → s.err = false → exec i s = .next t → t.err = true →
    (t.ecode = 1 ∨ t.ecode = 2 ∨ t.ecode = 4 ∨ t.ecode = 5) ∧ t.eop = opcodeOf (commandWord i) ∧ t.epos = t.pos ∧
      t.responses = .err t.ecode :: s.responses ∧ t.mvrF = s.mvrF ∧ t.mvrB = s.mvrB ∧ t.cb = s.cb ∧
      (isVld i = false → t.pos = s.pos)

/-- Only the reset event leaves the error state; until then no step changes the error record, an MVR register or a coefficient
(60_exceptions.md R216, R219). -/
def Obligations.OnlyResetLeavesTheErrorState : Prop :=
  ∀ s t : State, s.err = true → step s = .next t →
    (∀ rest, s.port ≠ .reset :: rest) → (∀ w rest, s.port ≠ .resetDuring w :: rest) →
      t.err = true ∧ t.ecode = s.ecode ∧ t.eop = s.eop ∧ t.epos = s.epos ∧ t.mvrF = s.mvrF ∧ t.mvrB = s.mvrB ∧ t.cb = s.cb

/-- Every command that is not refused by the model gives the host exactly one response (30_encoding.md R83). -/
def Obligations.EveryCommandGivesOneResponse : Prop :=
  ∀ (i : Instr) (s t : State), i.ctx = .command → exec i s = .next t → ∃ r, t.responses = r :: s.responses

/-! ## Invariants -/

/-- Every step keeps the invariant: cursor within the stream, buffer in canonical form, both predictors in range, error record
well formed (10_state.md R22, R30, 42_mvr.md R168). -/
def Obligations.EveryStepKeepsTheInvariant : Prop :=
  ∀ s t : State, s.Inv → step s = .next t → t.Inv

/-- Every instruction keeps it, also a codeword taken by itself. -/
def Obligations.EveryInstructionKeepsTheInvariant : Prop :=
  ∀ (i : Instr) (s t : State), s.Inv → exec i s = .next t → t.Inv

/-- The invariant holds after reset, and after a reset event in any state. -/
def Obligations.ResetSatisfiesTheInvariant : Prop :=
  State.reset.Inv ∧ ∀ s : State, s.pos ≤ s.bs.length → (resetEvent s).Inv

/-- The cursor only increases and the stream is never written, whatever the host does, reset included (10_state.md R22,
20_memory.md R68). -/
def Obligations.CursorNeverMovesBack : Prop :=
  ∀ s t : State, step s = .next t → s.pos ≤ t.pos ∧ t.bs = s.bs
end

