-- ==== Sys2Proof/Laws/State.lean ====
section
/-! SUPPORT. One lemma per field per state update, so that no later proof unfolds a record update. -/

namespace Sys2Proof.Machine

/-! ### Registers without a bound (`POS_W`, `INCR_W`) -/

@[simp] theorem fits_posW (n : Nat) : fits Config.posW n = true := rfl

@[simp] theorem fits_incrW (n : Nat) : fits Config.incrW n = true := rfl

@[simp] theorem withinIncr_incrW (n : Nat) (o : Outcome) : withinIncr Config.incrW n o = o := rfl

/-! ### `respond` -/

@[simp] theorem respond_bs (r : Response) (s : State) : (respond r s).bs = s.bs := rfl
@[simp] theorem respond_pos (r : Response) (s : State) : (respond r s).pos = s.pos := rfl
@[simp] theorem respond_mvrF (r : Response) (s : State) : (respond r s).mvrF = s.mvrF := rfl
@[simp] theorem respond_mvrB (r : Response) (s : State) : (respond r s).mvrB = s.mvrB := rfl
@[simp] theorem respond_cb (r : Response) (s : State) : (respond r s).cb = s.cb := rfl
@[simp] theorem respond_err (r : Response) (s : State) : (respond r s).err = s.err := rfl
@[simp] theorem respond_ecode (r : Response) (s : State) : (respond r s).ecode = s.ecode := rfl
@[simp] theorem respond_eop (r : Response) (s : State) : (respond r s).eop = s.eop := rfl
@[simp] theorem respond_epos (r : Response) (s : State) : (respond r s).epos = s.epos := rfl
@[simp] theorem respond_port (r : Response) (s : State) : (respond r s).port = s.port := rfl
@[simp] theorem respond_responses (r : Response) (s : State) : (respond r s).responses = r :: s.responses := rfl
@[simp] theorem respond_op (r : Response) (s : State) : (respond r s).op = s.op := rfl
@[simp] theorem respond_acc (r : Response) (s : State) : (respond r s).acc = s.acc := rfl

/-! ### `bitSkip` -/

@[simp] theorem bitSkip_bs (n : Nat) (s : State) : (bitSkip n s).bs = s.bs := rfl
@[simp] theorem bitSkip_pos (n : Nat) (s : State) : (bitSkip n s).pos = s.pos + n := rfl
@[simp] theorem bitSkip_mvrF (n : Nat) (s : State) : (bitSkip n s).mvrF = s.mvrF := rfl
@[simp] theorem bitSkip_mvrB (n : Nat) (s : State) : (bitSkip n s).mvrB = s.mvrB := rfl
@[simp] theorem bitSkip_cb (n : Nat) (s : State) : (bitSkip n s).cb = s.cb := rfl
@[simp] theorem bitSkip_err (n : Nat) (s : State) : (bitSkip n s).err = s.err := rfl
@[simp] theorem bitSkip_ecode (n : Nat) (s : State) : (bitSkip n s).ecode = s.ecode := rfl
@[simp] theorem bitSkip_eop (n : Nat) (s : State) : (bitSkip n s).eop = s.eop := rfl
@[simp] theorem bitSkip_epos (n : Nat) (s : State) : (bitSkip n s).epos = s.epos := rfl
@[simp] theorem bitSkip_port (n : Nat) (s : State) : (bitSkip n s).port = s.port := rfl
@[simp] theorem bitSkip_responses (n : Nat) (s : State) : (bitSkip n s).responses = s.responses := rfl
@[simp] theorem bitSkip_op (n : Nat) (s : State) : (bitSkip n s).op = s.op := rfl
@[simp] theorem bitSkip_acc (n : Nat) (s : State) : (bitSkip n s).acc = s.acc := rfl

/-! ### `refuse` -/

@[simp] theorem refuse_bs (s : State) : (refuse s).bs = s.bs := rfl
@[simp] theorem refuse_pos (s : State) : (refuse s).pos = s.pos := rfl
@[simp] theorem refuse_mvrF (s : State) : (refuse s).mvrF = s.mvrF := rfl
@[simp] theorem refuse_mvrB (s : State) : (refuse s).mvrB = s.mvrB := rfl
@[simp] theorem refuse_cb (s : State) : (refuse s).cb = s.cb := rfl
@[simp] theorem refuse_err (s : State) : (refuse s).err = s.err := rfl
@[simp] theorem refuse_ecode (s : State) : (refuse s).ecode = s.ecode := rfl
@[simp] theorem refuse_eop (s : State) : (refuse s).eop = s.eop := rfl
@[simp] theorem refuse_epos (s : State) : (refuse s).epos = s.epos := rfl
@[simp] theorem refuse_port (s : State) : (refuse s).port = s.port := rfl
@[simp] theorem refuse_responses (s : State) : (refuse s).responses = .err s.ecode :: s.responses := rfl
@[simp] theorem refuse_op (s : State) : (refuse s).op = s.op := rfl
@[simp] theorem refuse_acc (s : State) : (refuse s).acc = s.acc := rfl

/-! ### `resetEvent` -/

@[simp] theorem resetEvent_bs (s : State) : (resetEvent s).bs = s.bs := rfl
@[simp] theorem resetEvent_pos (s : State) : (resetEvent s).pos = s.pos := rfl
@[simp] theorem resetEvent_mvrF (s : State) : (resetEvent s).mvrF = Mvr.reset := rfl
@[simp] theorem resetEvent_mvrB (s : State) : (resetEvent s).mvrB = Mvr.reset := rfl
@[simp] theorem resetEvent_cb (s : State) : (resetEvent s).cb = [] := rfl
@[simp] theorem resetEvent_err (s : State) : (resetEvent s).err = false := rfl
@[simp] theorem resetEvent_ecode (s : State) : (resetEvent s).ecode = 0 := rfl
@[simp] theorem resetEvent_eop (s : State) : (resetEvent s).eop = 0 := rfl
@[simp] theorem resetEvent_epos (s : State) : (resetEvent s).epos = 0 := rfl
@[simp] theorem resetEvent_port (s : State) : (resetEvent s).port = s.port := rfl
@[simp] theorem resetEvent_responses (s : State) : (resetEvent s).responses = s.responses := rfl
@[simp] theorem resetEvent_op (s : State) : (resetEvent s).op = 0 := rfl
@[simp] theorem resetEvent_acc (s : State) : (resetEvent s).acc = 0 := rfl

/-! ### `beginCommand` -/

@[simp] theorem beginCommand_bs (op : BitVec 8) (s : State) : (beginCommand op s).bs = s.bs := rfl
@[simp] theorem beginCommand_pos (op : BitVec 8) (s : State) : (beginCommand op s).pos = s.pos := rfl
@[simp] theorem beginCommand_mvrF (op : BitVec 8) (s : State) : (beginCommand op s).mvrF = s.mvrF := rfl
@[simp] theorem beginCommand_mvrB (op : BitVec 8) (s : State) : (beginCommand op s).mvrB = s.mvrB := rfl
@[simp] theorem beginCommand_cb (op : BitVec 8) (s : State) : (beginCommand op s).cb = s.cb := rfl
@[simp] theorem beginCommand_err (op : BitVec 8) (s : State) : (beginCommand op s).err = s.err := rfl
@[simp] theorem beginCommand_ecode (op : BitVec 8) (s : State) : (beginCommand op s).ecode = s.ecode := rfl
@[simp] theorem beginCommand_eop (op : BitVec 8) (s : State) : (beginCommand op s).eop = s.eop := rfl
@[simp] theorem beginCommand_epos (op : BitVec 8) (s : State) : (beginCommand op s).epos = s.epos := rfl
@[simp] theorem beginCommand_port (op : BitVec 8) (s : State) : (beginCommand op s).port = s.port := rfl
@[simp] theorem beginCommand_responses (op : BitVec 8) (s : State) : (beginCommand op s).responses = s.responses := rfl
@[simp] theorem beginCommand_op (op : BitVec 8) (s : State) : (beginCommand op s).op = op := rfl
@[simp] theorem beginCommand_acc (op : BitVec 8) (s : State) : (beginCommand op s).acc = 0 := rfl

/-! ### `setMvr` -/

@[simp] theorem setMvr_bs (s : State) (d : Dir) (m : Mvr) : (s.setMvr d m).bs = s.bs := by cases d <;> rfl
@[simp] theorem setMvr_pos (s : State) (d : Dir) (m : Mvr) : (s.setMvr d m).pos = s.pos := by cases d <;> rfl
@[simp] theorem setMvr_mvrF (s : State) (d : Dir) (m : Mvr) : (s.setMvr d m).mvrF = if d = .F then m else s.mvrF := by cases d <;> rfl
@[simp] theorem setMvr_mvrB (s : State) (d : Dir) (m : Mvr) : (s.setMvr d m).mvrB = if d = .B then m else s.mvrB := by cases d <;> rfl
@[simp] theorem setMvr_cb (s : State) (d : Dir) (m : Mvr) : (s.setMvr d m).cb = s.cb := by cases d <;> rfl
@[simp] theorem setMvr_err (s : State) (d : Dir) (m : Mvr) : (s.setMvr d m).err = s.err := by cases d <;> rfl
@[simp] theorem setMvr_ecode (s : State) (d : Dir) (m : Mvr) : (s.setMvr d m).ecode = s.ecode := by cases d <;> rfl
@[simp] theorem setMvr_eop (s : State) (d : Dir) (m : Mvr) : (s.setMvr d m).eop = s.eop := by cases d <;> rfl
@[simp] theorem setMvr_epos (s : State) (d : Dir) (m : Mvr) : (s.setMvr d m).epos = s.epos := by cases d <;> rfl
@[simp] theorem setMvr_port (s : State) (d : Dir) (m : Mvr) : (s.setMvr d m).port = s.port := by cases d <;> rfl
@[simp] theorem setMvr_responses (s : State) (d : Dir) (m : Mvr) : (s.setMvr d m).responses = s.responses := by cases d <;> rfl
@[simp] theorem setMvr_op (s : State) (d : Dir) (m : Mvr) : (s.setMvr d m).op = s.op := by cases d <;> rfl
@[simp] theorem setMvr_acc (s : State) (d : Dir) (m : Mvr) : (s.setMvr d m).acc = s.acc := by cases d <;> rfl

/-! ### `recordError` -/

@[simp] theorem recordError_bs (k : ErrorKind) (s : State) : (recordError k s).bs = s.bs := by
  unfold recordError; split <;> simp_all
@[simp] theorem recordError_pos (k : ErrorKind) (s : State) : (recordError k s).pos = s.pos := by
  unfold recordError; split <;> simp_all
@[simp] theorem recordError_mvrF (k : ErrorKind) (s : State) : (recordError k s).mvrF = s.mvrF := by
  unfold recordError; split <;> simp_all
@[simp] theorem recordError_mvrB (k : ErrorKind) (s : State) : (recordError k s).mvrB = s.mvrB := by
  unfold recordError; split <;> simp_all
@[simp] theorem recordError_cb (k : ErrorKind) (s : State) : (recordError k s).cb = s.cb := by
  unfold recordError; split <;> simp_all
@[simp] theorem recordError_err (k : ErrorKind) (s : State) : (recordError k s).err = true := by
  unfold recordError; split <;> simp_all
@[simp] theorem recordError_ecode (k : ErrorKind) (s : State) : (recordError k s).ecode = if s.err then s.ecode else k.code := by
  unfold recordError; split <;> simp_all
@[simp] theorem recordError_eop (k : ErrorKind) (s : State) : (recordError k s).eop = if s.err then s.eop else s.op := by
  unfold recordError; split <;> simp_all
@[simp] theorem recordError_epos (k : ErrorKind) (s : State) : (recordError k s).epos = if s.err then s.epos else s.pos := by
  unfold recordError; split <;> simp_all
@[simp] theorem recordError_port (k : ErrorKind) (s : State) : (recordError k s).port = s.port := by
  unfold recordError; split <;> simp_all
@[simp] theorem recordError_responses (k : ErrorKind) (s : State) : (recordError k s).responses = s.responses := by
  unfold recordError; split <;> simp_all
@[simp] theorem recordError_op (k : ErrorKind) (s : State) : (recordError k s).op = s.op := by
  unfold recordError; split <;> simp_all
@[simp] theorem recordError_acc (k : ErrorKind) (s : State) : (recordError k s).acc = s.acc := by
  unfold recordError; split <;> simp_all

/-! ### `raise` -/

@[simp] theorem raise_bs (k : ErrorKind) (s : State) : (raise k s).bs = s.bs := by
  simp [raise]
@[simp] theorem raise_pos (k : ErrorKind) (s : State) : (raise k s).pos = s.pos := by
  simp [raise]
@[simp] theorem raise_mvrF (k : ErrorKind) (s : State) : (raise k s).mvrF = s.mvrF := by
  simp [raise]
@[simp] theorem raise_mvrB (k : ErrorKind) (s : State) : (raise k s).mvrB = s.mvrB := by
  simp [raise]
@[simp] theorem raise_cb (k : ErrorKind) (s : State) : (raise k s).cb = s.cb := by
  simp [raise]
@[simp] theorem raise_err (k : ErrorKind) (s : State) : (raise k s).err = true := by
  simp [raise]
@[simp] theorem raise_ecode (k : ErrorKind) (s : State) : (raise k s).ecode = if s.err then s.ecode else k.code := by
  simp [raise]
@[simp] theorem raise_eop (k : ErrorKind) (s : State) : (raise k s).eop = if s.err then s.eop else s.op := by
  simp [raise]
@[simp] theorem raise_epos (k : ErrorKind) (s : State) : (raise k s).epos = if s.err then s.epos else s.pos := by
  simp [raise]
@[simp] theorem raise_port (k : ErrorKind) (s : State) : (raise k s).port = s.port := by
  simp [raise]
@[simp] theorem raise_responses (k : ErrorKind) (s : State) : (raise k s).responses = .err k.code :: s.responses := by
  simp [raise]
@[simp] theorem raise_op (k : ErrorKind) (s : State) : (raise k s).op = s.op := by
  simp [raise]
@[simp] theorem raise_acc (k : ErrorKind) (s : State) : (raise k s).acc = s.acc := by
  simp [raise]

/-! ### MVR registers by direction -/

@[simp] theorem setMvr_mvr_same (s : State) (d : Dir) (m : Mvr) : (s.setMvr d m).mvr d = m := by cases d <;> rfl

theorem setMvr_mvr_other (s : State) (d e : Dir) (m : Mvr) (h : d ≠ e) : (s.setMvr d m).mvr e = s.mvr e := by
  cases d <;> cases e <;> simp_all [State.mvr, State.setMvr]

@[simp] theorem respond_mvr (r : Response) (s : State) (d : Dir) : (respond r s).mvr d = s.mvr d := by cases d <;> rfl

@[simp] theorem raise_mvr (k : ErrorKind) (s : State) (d : Dir) : (raise k s).mvr d = s.mvr d := by
  cases d <;> simp [State.mvr]

/-! ### Bits that remain -/

@[simp] theorem remaining_respond (r : Response) (s : State) : (respond r s).remaining = s.remaining := rfl

@[simp] theorem remaining_beginCommand (op : BitVec 8) (s : State) : (beginCommand op s).remaining = s.remaining := rfl

@[simp] theorem remaining_bitSkip (n : Nat) (s : State) : (bitSkip n s).remaining = s.remaining - n := by
  simp [State.remaining]; omega

@[simp] theorem inErrorState_eq (s : State) : s.inErrorState = s.err := by
  simp [State.inErrorState, Config.errSticky]

/-- An error recorded outside the error state, as one record update (60_exceptions.md R216). -/
theorem raise_of_not_err (k : ErrorKind) (s : State) (h : s.err = false) :
    raise k s = { s with
      err := true, ecode := k.code, eop := s.op, epos := s.pos, responses := .err k.code :: s.responses } := by
  simp [raise, recordError, respond, h]

end Sys2Proof.Machine
end

