-- ==== Sys2Proof/Laws/Ops.lean ====
section
/-! SUPPORT. What each shared operation can do, said once: bit strings, the bit port, the coefficient buffer, the frame of a
command. Later proofs cite these and unfold none of the operations. -/

namespace Sys2Proof

/-! ## Bit strings -/

@[simp] theorem code_length (n v : Nat) : (code n v).length = n := by
  induction n with
  | zero => rfl
  | succ n ih => simp [code, ih]

theorem bitsToNat_foldl (b : Bits) (a : Nat) :
    b.foldl (fun acc x => 2 * acc + x.toNat) a = a * 2 ^ b.length + bitsToNat b := by
  induction b generalizing a with
  | nil => simp [bitsToNat]
  | cons x b ih =>
    simp only [List.foldl_cons, List.length_cons, bitsToNat]
    rw [ih, ih (2 * 0 + x.toNat)]
    ring

@[simp] theorem bitsToNat_nil : bitsToNat [] = 0 := rfl

theorem bitsToNat_cons (x : Bool) (b : Bits) : bitsToNat (x :: b) = x.toNat * 2 ^ b.length + bitsToNat b := by
  rw [bitsToNat, List.foldl_cons, bitsToNat_foldl]; simp

theorem bitsToNat_lt (b : Bits) : bitsToNat b < 2 ^ b.length := by
  induction b with
  | nil => simp
  | cons x b ih =>
    rw [bitsToNat_cons, List.length_cons, pow_succ]
    cases x <;> simp <;> omega

/-- The string of a number's low `n` bits reads back as those bits. -/
theorem bitsToNat_code_mod (n v : Nat) : bitsToNat (code n v) = v % 2 ^ n := by
  induction n with
  | zero => simp [code, Nat.mod_one]
  | succ n ih =>
    rw [code, bitsToNat_cons, ih, code_length, Nat.mod_pow_succ, Nat.testBit_eq_decide_div_mod_eq]
    rcases Nat.mod_two_eq_zero_or_one (v / 2 ^ n) with h | h <;> simp [h]
    ring

theorem bitsToNat_code (n v : Nat) (h : v < 2 ^ n) : bitsToNat (code n v) = v := by
  rw [bitsToNat_code_mod, Nat.mod_eq_of_lt h]

theorem code_congr (n v w : Nat) (h : v % 2 ^ n = w % 2 ^ n) : code n v = code n w := by
  induction n with
  | zero => rfl
  | succ n ih =>
    have hb : v.testBit n = w.testBit n := by
      have := congrArg (fun x => x.testBit n) h
      simpa [Nat.testBit_mod_two_pow] using this
    have hl : v % 2 ^ n = w % 2 ^ n := by
      have := congrArg (· % 2 ^ n) h
      simpa [Nat.mod_mod_of_dvd _ (pow_dvd_pow 2 (Nat.le_succ n))] using this
    simp [code, hb, ih hl]

/-- A bit string is the string of the number it reads as. -/
theorem code_bitsToNat (b : Bits) : code b.length (bitsToNat b) = b := by
  induction b with
  | nil => rfl
  | cons x b ih =>
    have hlt := bitsToNat_lt b
    have htop : (bitsToNat (x :: b)).testBit b.length = x := by
      rw [bitsToNat_cons, Nat.testBit_eq_decide_div_mod_eq]
      cases x
      · simp [Nat.div_eq_of_lt hlt]
      · simp [Nat.div_eq_of_lt hlt]
    have hrest : code b.length (bitsToNat (x :: b)) = code b.length (bitsToNat b) := by
      apply code_congr
      rw [bitsToNat_cons]
      simp
    rw [List.length_cons, code, htop, hrest, ih]

end Sys2Proof

namespace Sys2Proof.Machine

/-! ## The bit port -/

@[simp] theorem unread_beginCommand (op : BitVec 8) (s : State) : (beginCommand op s).unread = s.unread := rfl

theorem unread_length (s : State) : s.unread.length = s.remaining := by simp [State.unread, State.remaining]

/-- The unread bits after a skip. -/
theorem unread_bitSkip (n : Nat) (s : State) : (bitSkip n s).unread = s.unread.drop n := by
  simp [State.unread, List.drop_drop]

/-- `BitPeek(n)` answers none exactly when fewer than `n` bits remain. -/
theorem bitPeek_eq_none (n : Nat) (s : State) : bitPeek n s = none ↔ s.remaining < n := by
  simp [bitPeek]

/-- `BitPeek(n)` with enough bits left. -/
theorem bitPeek_of_le (n : Nat) (s : State) (h : n ≤ s.remaining) : bitPeek n s = some (s.unread.take n) := by
  simp [bitPeek, State.unread, Nat.not_lt.2 h]

/-- `BitRead(n)`: either the stream is too short, or the next `n` bits are read and consumed. -/
theorem bitRead_cases (n : Nat) (s : State) :
    (s.remaining < n ∧ bitRead n s = none) ∨
      (n ≤ s.remaining ∧ bitRead n s = some (bitsToNat (s.unread.take n), bitSkip n s)) := by
  by_cases h : s.remaining < n
  · exact .inl ⟨h, by simp [bitRead, (bitPeek_eq_none n s).2 h]⟩
  · have h := Nat.not_lt.1 h
    exact .inr ⟨h, by simp [bitRead, bitPeek_of_le n s h]⟩

/-- `BitRead(n)` of a stream that goes on with the bits of `v`. -/
theorem bitRead_code (n v : Nat) (rest : Bits) (s : State) (hv : v < 2 ^ n) (h : s.unread = code n v ++ rest) :
    bitRead n s = some (v, bitSkip n s) := by
  have hlen : n ≤ s.remaining := by simp [← unread_length, h]
  rcases bitRead_cases n s with ⟨hlt, _⟩ | ⟨_, hr⟩
  · omega
  · rw [hr, h, List.take_left' (code_length n v), bitsToNat_code n v hv]

/-! ## The coefficient buffer -/

theorem Memory.read_write_same (m : Memory) (i : Nat) (v : BitVec 16) : (m.write i v).read i = some v := by
  induction m with
  | nil => simp [Memory.write, Memory.read]
  | cons e m ih =>
    obtain ⟨j, w⟩ := e
    by_cases h1 : i < j
    · simp [Memory.write, Memory.read, h1]
    · by_cases h2 : i = j
      · simp [Memory.write, Memory.read, h2]
      · simp [Memory.write, Memory.read, h1, h2, Ne.symm h2, ih]

theorem Memory.read_write_other (m : Memory) (i k : Nat) (v : BitVec 16) (h : k ≠ i) :
    (m.write i v).read k = m.read k := by
  induction m with
  | nil => simp [Memory.write, Memory.read, Ne.symm h]
  | cons e m ih =>
    obtain ⟨j, w⟩ := e
    by_cases h1 : i < j
    · simp [Memory.write, Memory.read, h1, Ne.symm h]
    · by_cases h2 : i = j
      · subst h2; simp [Memory.write, Memory.read, Ne.symm h]
      · simp only [Memory.write, h1, h2, if_false, Memory.read, ih]

theorem Memory.wfFrom_mono (m : Memory) (lo lo' : Nat) (h : lo' ≤ lo) (hw : Memory.wfFrom lo m = true) :
    Memory.wfFrom lo' m = true := by
  cases m with
  | nil => rfl
  | cons e m =>
    simp only [Memory.wfFrom, Bool.and_eq_true, decide_eq_true_eq] at hw ⊢
    exact ⟨⟨by omega, hw.1.2⟩, hw.2⟩

theorem Memory.wfFrom_write (m : Memory) (lo i : Nat) (v : BitVec 16) (hlo : lo ≤ i) (hi : i < 64)
    (hw : Memory.wfFrom lo m = true) : Memory.wfFrom lo (m.write i v) = true := by
  induction m generalizing lo with
  | nil => simp [Memory.write, Memory.wfFrom, hlo, hi]
  | cons e m ih =>
    obtain ⟨j, w⟩ := e
    simp only [Memory.wfFrom, Bool.and_eq_true, decide_eq_true_eq] at hw
    by_cases h1 : i < j
    · simp only [Memory.write, h1, if_true, Memory.wfFrom, Bool.and_eq_true, decide_eq_true_eq]
      exact ⟨⟨hlo, hi⟩, ⟨by omega, hw.1.2⟩, hw.2⟩
    · by_cases h2 : i = j
      · subst h2
        simp only [Memory.write, h1, if_false, if_true, Memory.wfFrom, Bool.and_eq_true, decide_eq_true_eq]
        exact ⟨⟨hlo, hi⟩, hw.2⟩
      · simp only [Memory.write, h1, h2, if_false, Memory.wfFrom, Bool.and_eq_true, decide_eq_true_eq]
        exact ⟨hw.1, ih (j + 1) (by omega) hw.2⟩

/-- A write of an existing entry keeps the canonical form. -/
theorem Memory.wf_write (m : Memory) (i : BitVec 6) (v : BitVec 16) (hw : m.wf = true) :
    (m.write i.toNat v).wf = true :=
  Memory.wfFrom_write m 0 i.toNat v (Nat.zero_le _) i.isLt hw

/-- The canonical form holds after reset. -/
theorem Memory.wf_reset : State.reset.cb.wf = true := rfl

/-- In canonical form an index below the bound is not listed. -/
theorem Memory.read_below (m : Memory) (lo i : Nat) (hw : Memory.wfFrom lo m = true) (h : i < lo) : m.read i = none := by
  induction m generalizing lo with
  | nil => rfl
  | cons e m ih =>
    obtain ⟨j, w⟩ := e
    simp only [Memory.wfFrom, Bool.and_eq_true, decide_eq_true_eq] at hw
    rw [Memory.read, if_neg (by omega)]
    exact ih (j + 1) hw.2 (by omega)

/-- Equal reads of canonical buffers mean equal buffers. -/
theorem Memory.ext_of_wfFrom (m n : Memory) (lo : Nat) (hm : Memory.wfFrom lo m = true) (hn : Memory.wfFrom lo n = true)
    (h : ∀ i, m.read i = n.read i) : m = n := by
  induction m generalizing n lo with
  | nil =>
    cases n with
    | nil => rfl
    | cons e n => have := h e.1; simp [Memory.read] at this
  | cons e m ih =>
    obtain ⟨j, v⟩ := e
    simp only [Memory.wfFrom, Bool.and_eq_true, decide_eq_true_eq] at hm
    cases n with
    | nil => have := h j; simp [Memory.read] at this
    | cons f n =>
      obtain ⟨k, w⟩ := f
      simp only [Memory.wfFrom, Bool.and_eq_true, decide_eq_true_eq] at hn
      have hjk : j = k := by
        rcases Nat.lt_trichotomy j k with hlt | heq | hgt
        · have := h j
          rw [Memory.read, if_pos rfl, Memory.read, if_neg (by omega), Memory.read_below n (k + 1) j hn.2 (by omega)] at this
          cases this
        · exact heq
        · have := h k
          rw [Memory.read, if_neg (by omega), Memory.read_below m (j + 1) k hm.2 (by omega), Memory.read, if_pos rfl] at this
          cases this
      subst hjk
      have hv : v = w := by have := h j; simpa [Memory.read] using this
      subst hv
      congr 1
      refine ih n (j + 1) hm.2 hn.2 fun i => ?_
      by_cases hij : j = i
      · subst hij
        rw [Memory.read_below m (j + 1) j hm.2 (by omega), Memory.read_below n (j + 1) j hn.2 (by omega)]
      · have := h i; simpa [Memory.read, hij] using this

theorem wfFrom_entriesFrom (vs : List Int) (lo i : Nat) (hlo : lo ≤ i) (h : i + vs.length ≤ 64) :
    Memory.wfFrom lo (entriesFrom i vs) = true := by
  induction vs generalizing lo i with
  | nil => rfl
  | cons v vs ih =>
    simp only [List.length_cons] at h
    simp only [entriesFrom, Memory.wfFrom, Bool.and_eq_true, decide_eq_true_eq]
    exact ⟨⟨hlo, by omega⟩, ih (i + 1) (i + 1) (Nat.le_refl _) (by omega)⟩

/-- The buffer `IDCT.BLK` leaves is in canonical form. -/
theorem wf_memoryOf (b : Block) : (memoryOf b).wf = true :=
  wfFrom_entriesFrom _ 0 0 (Nat.le_refl _) (by simp [Vec8.toList])

/-- What the entries of a list read as. -/
theorem read_entriesFrom (vs : List Int) (i k : Nat) :
    Memory.read (entriesFrom i vs) k = if i ≤ k then (vs[k - i]?).map (BitVec.ofInt 16) else none := by
  induction vs generalizing i with
  | nil => simp [entriesFrom, Memory.read]
  | cons v vs ih =>
    rw [entriesFrom, Memory.read, ih]
    rcases Nat.lt_trichotomy i k with h | h | h
    · have e : k - i = (k - (i + 1)) + 1 := by omega
      simp [Nat.ne_of_lt h, Nat.le_of_lt h, Nat.succ_le_of_lt h, e]
    · subst h; simp
    · simp [Nat.ne_of_gt h, Nat.not_le.2 h, Nat.not_le.2 (Nat.lt_succ_of_lt h)]

/-- Entry `8y + x` of the buffer that holds a block. -/
theorem read_memoryOf (b : Block) (y x : Fin 8) :
    (memoryOf b).read (8 * y + x) = some (BitVec.ofInt 16 ((b.get y).get x)) := by
  rw [memoryOf, read_entriesFrom]
  fin_cases y <;> fin_cases x <;> rfl

/-- The row and column of a block read back from a buffer. -/
theorem get_blockOf (m : Memory) (y x : Fin 8) : ((blockOf m).get y).get x = entryInt m (8 * y + x) := by
  fin_cases y <;> fin_cases x <;> rfl

/-- Either every entry of the range is written, or the answer is the first that is not. -/
theorem firstUnwritten_cases (m : Memory) (i n : Nat) :
    (firstUnwritten m i n = none ∧ ∀ k, i ≤ k → k < i + n → m.read k ≠ none) ∨
      ∃ k, firstUnwritten m i n = some k ∧ i ≤ k ∧ k < i + n ∧ m.read k = none ∧ ∀ j, i ≤ j → j < k → m.read j ≠ none := by
  induction n generalizing i with
  | zero => exact .inl ⟨rfl, fun k h1 h2 => by omega⟩
  | succ n ih =>
    cases hr : m.read i with
    | none => exact .inr ⟨i, by simp [firstUnwritten, hr], Nat.le_refl _, by omega, hr, fun j h1 h2 => by omega⟩
    | some v =>
      have hi : m.read i ≠ none := by simp [hr]
      rcases ih (i + 1) with ⟨hf, hall⟩ | ⟨k, hf, h1, h2, h3, h4⟩
      · refine .inl ⟨by simp [firstUnwritten, hr, hf], fun k hk1 hk2 => ?_⟩
        by_cases hk : k = i
        · exact hk ▸ hi
        · exact hall k (by omega) (by omega)
      · refine .inr ⟨k, by simp [firstUnwritten, hr, hf], by omega, by omega, h3, fun j hj1 hj2 => ?_⟩
        by_cases hj : j = i
        · exact hj ▸ hi
        · exact h4 j (by omega) hj2

theorem Vec8.all_eq_true {α : Type} (p : α → Bool) (a : Vec8 α) :
    a.all p = true ↔ ∀ i : Fin 8, p (a.get i) = true := by
  constructor
  · intro h i
    simp only [Vec8.all, Bool.and_eq_true] at h
    fin_cases i <;> simp [Vec8.get, h]
  · intro h
    have h0 := h 0; have h1 := h 1; have h2 := h 2; have h3 := h 3
    have h4 := h 4; have h5 := h 5; have h6 := h 6; have h7 := h 7
    simp only [Vec8.get] at h0 h1 h2 h3 h4 h5 h6 h7
    simp [Vec8.all, h0, h1, h2, h3, h4, h5, h6, h7]

@[simp] theorem Vec8.get_map {α β : Type} (g : α → β) (a : Vec8 α) (i : Fin 8) : (a.map g).get i = g (a.get i) := by
  fin_cases i <;> rfl

@[simp] theorem get_transpose {α : Type} (b : Vec8 (Vec8 α)) (i j : Fin 8) :
    ((transpose b).get i).get j = (b.get j).get i := by
  fin_cases i <;> fin_cases j <;> rfl

/-! ## The two passes -/

@[simp] theorem saturate_none (v : Int) : saturate none v = v := rfl

/-- With the setting the spec takes no residual is saturated. -/
theorem map_saturate (b : Block) : b.map (Vec8.map (saturate Config.idctClamp)) = b := rfl

/-- With the setting the spec takes the transform is the column pass of the row pass. -/
theorem idctWith_eq (k : Config.Kernel) (b : Block) : idctWith k b = columnPass k (rowPass k b) := by
  rw [idctWith, map_saturate]

/-- One output of the 1-D kernel: rounded once. -/
@[simp] theorem get_run (k : Config.Kernel) (shift : Nat) (v : Vec8 Int) (n : Fin 8) :
    (k.run shift v).get n = rndShift ((k.network v).get n) shift := by
  simp [Config.Kernel.run, Config.round]

/-- Entry `8y + x` of the row pass comes from row `y` alone. -/
@[simp] theorem get_rowPass (k : Config.Kernel) (b : Block) (y x : Fin 8) :
    ((rowPass k b).get y).get x = rndShift ((k.network (b.get y)).get x) Config.sRow := by
  simp [rowPass]

/-- Entry `8y + x` of the column pass comes from column `x` alone. -/
@[simp] theorem get_columnPass (k : Config.Kernel) (t : Block) (y x : Fin 8) :
    ((columnPass k t).get y).get x = rndShift ((k.network ((transpose t).get x)).get y) Config.sCol := by
  simp [columnPass]

/-! ## The frame of a command -/

/-- Outside the error state a command runs its body. -/
theorem command_running (op : BitVec 8) (body : State → Outcome) (s : State) (h : s.err = false) :
    command op body s = body (beginCommand op s) := by
  simp [command, h]

/-- In the error state it is refused. -/
theorem command_refused (op : BitVec 8) (body : State → Outcome) (s : State) (h : s.err = true) :
    command op body s = .next (refuse s) := by
  simp [command, h]

/-- With a fixed width a sum is delivered unchanged or refused: it is never wrapped. -/
theorem withinIncr_cases (width : Option Nat) (sum : Nat) (o : Outcome) :
    (fits width sum = true ∧ withinIncr width sum o = o) ∨
      (∃ w, width = some w ∧ 2 ^ w ≤ sum ∧ withinIncr width sum o = .refused (.incrementTooWide sum)) := by
  cases width with
  | none => exact .inl ⟨rfl, rfl⟩
  | some w =>
    by_cases h : sum < 2 ^ w
    · exact .inl ⟨by simp [fits, h], by simp [withinIncr, fits, h]⟩
    · exact .inr ⟨w, rfl, Nat.not_lt.1 h, by simp [withinIncr, fits, h]⟩

/-- All a codeword's meaning can do. -/
theorem codeword_cases (t : Table) (len : Nat) (deliver : State → State) (s : State) :
    (s.err = true ∧ codeword t len deliver s = .next (refuse s)) ∨
      (s.err = false ∧ s.remaining < t.width ∧ codeword t len deliver s = .next (raise .unexpectedEndOfStream s)) ∨
      (s.err = false ∧ t.width ≤ s.remaining ∧ codeword t len deliver s = .next (deliver (bitSkip len s))) := by
  cases h : s.err
  · by_cases hw : s.remaining < t.width
    · exact .inr (.inl ⟨rfl, hw, by simp [codeword, codewordThen, h, hw]⟩)
    · exact .inr (.inr ⟨rfl, Nat.not_lt.1 hw, by simp [codeword, codewordThen, h, hw]⟩)
  · exact .inl ⟨rfl, by simp [codeword, codewordThen, h]⟩

/-- A codeword's meaning in a running block whose stream holds the table's window. -/
theorem codeword_running (t : Table) (len : Nat) (deliver : State → State) (s : State) (h : s.err = false)
    (hw : t.width ≤ s.remaining) : codeword t len deliver s = .next (deliver (bitSkip len s)) := by
  simp [codeword, codewordThen, h, Nat.not_lt.2 hw]

/-- All a DC differential field's meaning can do. -/
theorem field_cases (n : Nat) (deliver : State → State) (s : State) :
    (s.err = true ∧ field n deliver s = .next (refuse s)) ∨
      (s.err = false ∧ s.remaining < n ∧ field n deliver s = .next (raise .unexpectedEndOfStream s)) ∨
      (s.err = false ∧ n ≤ s.remaining ∧ field n deliver s = .next (deliver (bitSkip n s))) := by
  cases h : s.err
  · by_cases hw : s.remaining < n
    · exact .inr (.inl ⟨rfl, hw, by simp [field, h, hw]⟩)
    · exact .inr (.inr ⟨rfl, Nat.not_lt.1 hw, by simp [field, h, hw]⟩)
  · exact .inl ⟨rfl, by simp [field, h]⟩

/-- The end of an escape delivers the level, whether or not it is a forbidden one (`ESC_FORBIDDEN = pass`). -/
theorem escapeFinish_pass (run : BitVec 6) (level : Int) (forbidden : Bool) (s : State) :
    escapeFinish Config.escForbidden run level forbidden s = respond (.ac false true run.toNat level) s := by
  simp [escapeFinish, Config.escForbidden]

/-! ## The look-up -/

/-- What the look-up finds is a row whose code begins the window. -/
theorem lookup_eq_some (t : Table) (w : Bits) (c : Bits) (e : Entry) (h : lookup t w = some (c, e)) :
    (c, e) ∈ t.rows ∧ c <+: w := by
  unfold lookup at h
  refine ⟨List.mem_of_find?_eq_some h, ?_⟩
  have := List.find?_some h
  simpa using this

/-- In a prefix-free table every row whose code begins the window is the one the look-up finds. -/
theorem lookup_of_mem (t : Table) (w : Bits) (r : Bits × Entry)
    (free : (t.rows.map Prod.fst).Pairwise fun a b => a.isPrefixOf b = false ∧ b.isPrefixOf a = false)
    (hr : r ∈ t.rows) (hp : r.1 <+: w) : lookup t w = some r := by
  unfold lookup
  generalize t.rows = rows at *
  induction rows with
  | nil => cases hr
  | cons q rows ih =>
    rw [List.map_cons, List.pairwise_cons] at free
    rw [List.find?_cons]
    rcases List.mem_cons.1 hr with rfl | hr
    · simp [List.isPrefixOf_iff_prefix.2 hp]
    · have hq : q.1.isPrefixOf w = false := by
        by_contra hne
        have hq : q.1 <+: w := List.isPrefixOf_iff_prefix.1 (by simpa using hne)
        have := free.1 r.1 (List.mem_map_of_mem hr)
        rcases List.prefix_or_prefix_of_prefix hq hp with h | h <;>
          rw [← List.isPrefixOf_iff_prefix] at h <;> simp [h] at this
      simp only [hq]
      exact ih free.2 hr

/-- A window that no row's code begins matches nothing. -/
theorem lookup_eq_none (t : Table) (w : Bits) (h : lookup t w = none) : ∀ r ∈ t.rows, ¬ r.1 <+: w := by
  unfold lookup at h
  rw [List.find?_eq_none] at h
  intro r hr
  simpa using h r hr

/-! ## The arithmetic of the MVR -/

/-- The one illegal f-code is 0. -/
theorem fCodeLegal_eq_false (c : BitVec Config.fCodeW) : fCodeLegal c = false ↔ c = 0 := by
  revert c; decide

/-- An integer that fits `PREV_W` bits is stored unchanged. -/
theorem toInt_ofInt_prevW (v : Int) (lo : -2048 ≤ v) (hi : v ≤ 2047) : (BitVec.ofInt Config.prevW v).toInt = v := by
  simp [Config.prevW, BitVec.toInt_ofInt, Int.bmod]; omega

/-- An integer that fits `CB_W` bits is stored unchanged. -/
theorem toInt_ofInt_cbW (v : Int) (lo : -32768 ≤ v) (hi : v ≤ 32767) : (BitVec.ofInt Config.cbW v).toInt = v := by
  simp [Config.cbW, BitVec.toInt_ofInt, Int.bmod]; omega

/-- The chroma halving with the setting the spec takes is the floor quotient. -/
theorem outputs_asr (fullPel : Bool) (new : Int) :
    outputs fullPel new = outputsWith .asr fullPel new := rfl

/-- The per-axis function has no result exactly when a used residual is not below the scale. -/
theorem mvAxis_eq_none (f : Nat) (code : Int) (r : Nat) (prev : Int) :
    mvAxis f code r prev = none ↔ f ≠ 1 ∧ code ≠ 0 ∧ f ≤ r := by
  by_cases hu : f = 1 ∨ code = 0
  · simp only [mvAxis, residualComplement, hu, if_true]
    constructor
    · intro h; split_ifs at h
    · intro h; rcases hu with hu | hu <;> simp_all
  · by_cases hr : f ≤ r
    · simp only [mvAxis, residualComplement, hu, hr, if_false, if_true, true_iff]
      exact ⟨fun h => hu (.inl h), fun h => hu (.inr h), trivial⟩
    · simp only [mvAxis, residualComplement, hu, hr, if_false]
      constructor
      · intro h; split_ifs at h
      · intro h; exact h.2.2.elim

end Sys2Proof.Machine
end

