-- ==== Sys2Proof/Laws/Codewords.lean ====
section
/-! SUPPORT. The meaning of every codeword row, table by table, as one shared operation over the row's length and value: by
`exec`, and by the look-up of a decoding command. Then what `VlcDecode` does once a row, an escape or nothing begins the
stream. -/

namespace Sys2Proof.Machine

open Sys2Proof.SpecTables

/-! ## The rows -/

/-- With the unbounded `INCR_W` the spec takes, an increment code always delivers its sum. -/
theorem mbaIncrement_eq (len v : Nat) (s : State) :
    mbaIncrement len v s = codeword .mba len (fun t => respond (.mba (t.acc + v)) { t with acc := 0 }) s := rfl

/-- So does the escape code go on with its sum. -/
theorem execTMbaEscape_eq (s : State) :
    execTMbaEscape s = codeword .mba 11 (fun t => { t with acc := t.acc + 33 }) s := rfl

theorem exec_mbaIncrements : ∀ r ∈ mbaIncrements, ∀ s, exec r.1 s = mbaIncrement r.2.1.length r.2.2 s := by
  intro r hr s; fin_cases hr <;> rfl

theorem exec_motionCodes : ∀ r ∈ motionCodes, ∀ s, exec r.1 s = mvRow r.2.1.length r.2.2 s := by
  intro r hr s; fin_cases hr <;> rfl

theorem exec_macroblockTypes : ∀ r ∈ macroblockTypes, ∀ s, exec r.2.1 s = mbtRow r.1 r.2.2.1.length r.2.2.2 s := by
  intro r hr s; fin_cases hr <;> rfl

theorem exec_blockPatterns : ∀ r ∈ blockPatterns, ∀ s, exec r.1 s = cbpRow r.2.1.length r.2.2 s := by
  intro r hr s; fin_cases hr <;> rfl

theorem exec_dcSizes : ∀ r ∈ dcSizes, ∀ s, exec r.2.1 s = dcSizeRow r.1 r.2.2.1.length r.2.2.2 s := by
  intro r hr s; fin_cases hr <;> rfl

theorem exec_runLevels : ∀ r ∈ runLevels, ∀ b s,
    exec (r.1 b) s = acRow .acn (r.2.1.length + 1) r.2.2.1 r.2.2.2 b s := by
  intro r hr b s; fin_cases hr <;> rfl

theorem runRow_mbaIncrements : ∀ r ∈ mbaIncrements, ∀ s, runRow r.1 s = mbaIncrement r.2.1.length r.2.2 s := by
  intro r hr s; fin_cases hr <;> rfl

theorem runRow_motionCodes : ∀ r ∈ motionCodes, ∀ s, runRow r.1 s = mvRow r.2.1.length r.2.2 s := by
  intro r hr s; fin_cases hr <;> rfl

theorem runRow_macroblockTypes : ∀ r ∈ macroblockTypes, ∀ s,
    runRow r.2.1 s = mbtRow r.1 r.2.2.1.length r.2.2.2 s := by
  intro r hr s; fin_cases hr <;> rfl

theorem runRow_blockPatterns : ∀ r ∈ blockPatterns, ∀ s, runRow r.1 s = cbpRow r.2.1.length r.2.2 s := by
  intro r hr s; fin_cases hr <;> rfl

theorem runRow_dcSizes : ∀ r ∈ dcSizes, ∀ s, runRow r.2.1 s = dcSizeRow r.1 r.2.2.1.length r.2.2.2 s := by
  intro r hr s; fin_cases hr <;> rfl

theorem runRow_runLevels : ∀ r ∈ runLevels, ∀ b s,
    runRow (r.1 b) s = acRow .acn (r.2.1.length + 1) r.2.2.1 r.2.2.2 b s := by
  intro r hr b s; fin_cases hr <;> rfl

/-! ## The look-up of a decoding command -/

/-- A window too short for the table. -/
theorem vlcDecode_short (t : Table) (s : State) (h : s.remaining < t.width) :
    vlcDecode t s = .next (raise .unexpectedEndOfStream s) := by
  simp [vlcDecode, (bitPeek_eq_none _ s).2 h]

/-- What `VlcDecode` does with a full window is what the look-up says. -/
theorem vlcDecode_window (t : Table) (s : State) (h : t.width ≤ s.remaining) :
    vlcDecode t s =
      match lookup t (s.unread.take t.width) with
      | none => .next (raise .invalidVlcCode s)
      | some (_, .row i) => runRow i s
      | some (c, .escape) => .next (escapeBody (bitSkip c.length s)) := by
  (rw [vlcDecode, bitPeek_of_le _ s h]) <;> rfl

/-- A stream that begins with a row's code, in a prefix-free table. -/
theorem vlcDecode_row (t : Table) (s : State) (c rest : Bits) (i : Instr)
    (free : (t.rows.map Prod.fst).Pairwise fun a b => a.isPrefixOf b = false ∧ b.isPrefixOf a = false)
    (hm : (c, Entry.row i) ∈ t.rows) (hl : c.length ≤ t.width) (hu : s.unread = c ++ rest)
    (hw : t.width ≤ s.remaining) : vlcDecode t s = runRow i s := by
  have hp : c <+: s.unread.take t.width := List.prefix_take_iff.2 ⟨hu ▸ List.prefix_append _ _, hl⟩
  rw [vlcDecode_window t s hw, lookup_of_mem t _ _ free hm hp]

/-- A stream that begins with the escape code, in a prefix-free table. -/
theorem vlcDecode_escape (t : Table) (s : State) (c rest : Bits)
    (free : (t.rows.map Prod.fst).Pairwise fun a b => a.isPrefixOf b = false ∧ b.isPrefixOf a = false)
    (hm : (c, Entry.escape) ∈ t.rows) (hl : c.length ≤ t.width) (hu : s.unread = c ++ rest)
    (hw : t.width ≤ s.remaining) : vlcDecode t s = .next (escapeBody (bitSkip c.length s)) := by
  have hp : c <+: s.unread.take t.width := List.prefix_take_iff.2 ⟨hu ▸ List.prefix_append _ _, hl⟩
  rw [vlcDecode_window t s hw, lookup_of_mem t _ _ free hm hp]

/-- A stream no row's code begins. -/
theorem vlcDecode_unused (t : Table) (s : State) (hw : t.width ≤ s.remaining)
    (h : lookup t (s.unread.take t.width) = none) : vlcDecode t s = .next (raise .invalidVlcCode s) := by
  rw [vlcDecode_window t s hw, h]

end Sys2Proof.Machine
end

