-- ==== Sys2Proof/Laws/PerInstr.lean ====
section
/-! SUPPORT. A family of facts about every instruction as syntax, one lemma per constructor. -/

namespace Sys2Proof.Laws

/-- The encoding has the length the row's format gives: 32 bits for a command word, the field's width for a fixed field, 1 to
28 bits for a codeword with what follows it (30_encoding.md R80, R100). -/
def EncodedLength.Statement (i : Instr) : Prop :=
  match i.ctx with
  | .command => (encode i).length = 32
  | .vlc _ => 1 ≤ (encode i).length ∧ (encode i).length ≤ 28
  | .dcDiff n => (encode i).length = n
  | .residual n => (encode i).length = n

namespace EncodedLength

theorem nop : Statement .nop := rfl
theorem vldMba : Statement .vldMba := rfl
theorem vldMbtI : Statement .vldMbtI := rfl
theorem vldMbtP : Statement .vldMbtP := rfl
theorem vldMbtB : Statement .vldMbtB := rfl
theorem vldMbtD : Statement .vldMbtD := rfl
theorem vldMv : Statement .vldMv := rfl
theorem vldCbp : Statement .vldCbp := rfl
theorem vldDcl : Statement .vldDcl := rfl
theorem vldDcc : Statement .vldDcc := rfl
theorem vldDcd (size : BitVec 4) : Statement (.vldDcd size) := rfl
theorem vldAcf : Statement .vldAcf := rfl
theorem vldAcn : Statement .vldAcn := rfl
theorem mvrSetupF (fullPel : Bool) (fCode : BitVec Config.fCodeW) : Statement (.mvrSetupF fullPel fCode) := rfl
theorem mvrSetupB (fullPel : Bool) (fCode : BitVec Config.fCodeW) : Statement (.mvrSetupB fullPel fCode) := rfl
theorem mvrResetF : Statement .mvrResetF := rfl
theorem mvrResetB : Statement .mvrResetB := rfl
theorem mvrCalcF (codeH : BitVec 6) (rH : BitVec 6) (codeV : BitVec 6) (rV : BitVec 6) : Statement (.mvrCalcF codeH rH codeV rV) := rfl
theorem mvrCalcB (codeH : BitVec 6) (rH : BitVec 6) (codeV : BitVec 6) (rV : BitVec 6) : Statement (.mvrCalcB codeH rH codeV rV) := rfl
theorem cbWr (idx : BitVec 6) (value : BitVec 16) : Statement (.cbWr idx value) := rfl
theorem cbRd (idx : BitVec 6) : Statement (.cbRd idx) := rfl
theorem idctBlk : Statement .idctBlk := rfl
theorem status : Statement .status := rfl
theorem tAcRun1Level1 (s : Bool) : Statement (.tAcRun1Level1 s) := ⟨Nat.le_of_ble_eq_true rfl, Nat.le_of_ble_eq_true rfl⟩
theorem tAcRun0Level2 (s : Bool) : Statement (.tAcRun0Level2 s) := ⟨Nat.le_of_ble_eq_true rfl, Nat.le_of_ble_eq_true rfl⟩
theorem tAcRun2Level1 (s : Bool) : Statement (.tAcRun2Level1 s) := ⟨Nat.le_of_ble_eq_true rfl, Nat.le_of_ble_eq_true rfl⟩
theorem tAcRun0Level3 (s : Bool) : Statement (.tAcRun0Level3 s) := ⟨Nat.le_of_ble_eq_true rfl, Nat.le_of_ble_eq_true rfl⟩
theorem tAcRun3Level1 (s : Bool) : Statement (.tAcRun3Level1 s) := ⟨Nat.le_of_ble_eq_true rfl, Nat.le_of_ble_eq_true rfl⟩
theorem tAcRun4Level1 (s : Bool) : Statement (.tAcRun4Level1 s) := ⟨Nat.le_of_ble_eq_true rfl, Nat.le_of_ble_eq_true rfl⟩
theorem tAcRun1Level2 (s : Bool) : Statement (.tAcRun1Level2 s) := ⟨Nat.le_of_ble_eq_true rfl, Nat.le_of_ble_eq_true rfl⟩
theorem tAcRun5Level1 (s : Bool) : Statement (.tAcRun5Level1 s) := ⟨Nat.le_of_ble_eq_true rfl, Nat.le_of_ble_eq_true rfl⟩
theorem tAcRun6Level1 (s : Bool) : Statement (.tAcRun6Level1 s) := ⟨Nat.le_of_ble_eq_true rfl, Nat.le_of_ble_eq_true rfl⟩
theorem tAcRun7Level1 (s : Bool) : Statement (.tAcRun7Level1 s) := ⟨Nat.le_of_ble_eq_true rfl, Nat.le_of_ble_eq_true rfl⟩
theorem tAcRun0Level4 (s : Bool) : Statement (.tAcRun0Level4 s) := ⟨Nat.le_of_ble_eq_true rfl, Nat.le_of_ble_eq_true rfl⟩
theorem tAcRun2Level2 (s : Bool) : Statement (.tAcRun2Level2 s) := ⟨Nat.le_of_ble_eq_true rfl, Nat.le_of_ble_eq_true rfl⟩
theorem tAcRun8Level1 (s : Bool) : Statement (.tAcRun8Level1 s) := ⟨Nat.le_of_ble_eq_true rfl, Nat.le_of_ble_eq_true rfl⟩
theorem tAcRun9Level1 (s : Bool) : Statement (.tAcRun9Level1 s) := ⟨Nat.le_of_ble_eq_true rfl, Nat.le_of_ble_eq_true rfl⟩
theorem tAcRun0Level5 (s : Bool) : Statement (.tAcRun0Level5 s) := ⟨Nat.le_of_ble_eq_true rfl, Nat.le_of_ble_eq_true rfl⟩
theorem tAcRun0Level6 (s : Bool) : Statement (.tAcRun0Level6 s) := ⟨Nat.le_of_ble_eq_true rfl, Nat.le_of_ble_eq_true rfl⟩
theorem tAcRun1Level3 (s : Bool) : Statement (.tAcRun1Level3 s) := ⟨Nat.le_of_ble_eq_true rfl, Nat.le_of_ble_eq_true rfl⟩
theorem tAcRun3Level2 (s : Bool) : Statement (.tAcRun3Level2 s) := ⟨Nat.le_of_ble_eq_true rfl, Nat.le_of_ble_eq_true rfl⟩
theorem tAcRun10Level1 (s : Bool) : Statement (.tAcRun10Level1 s) := ⟨Nat.le_of_ble_eq_true rfl, Nat.le_of_ble_eq_true rfl⟩
theorem tAcRun11Level1 (s : Bool) : Statement (.tAcRun11Level1 s) := ⟨Nat.le_of_ble_eq_true rfl, Nat.le_of_ble_eq_true rfl⟩
theorem tAcRun12Level1 (s : Bool) : Statement (.tAcRun12Level1 s) := ⟨Nat.le_of_ble_eq_true rfl, Nat.le_of_ble_eq_true rfl⟩
theorem tAcRun13Level1 (s : Bool) : Statement (.tAcRun13Level1 s) := ⟨Nat.le_of_ble_eq_true rfl, Nat.le_of_ble_eq_true rfl⟩
theorem tAcRun0Level7 (s : Bool) : Statement (.tAcRun0Level7 s) := ⟨Nat.le_of_ble_eq_true rfl, Nat.le_of_ble_eq_true rfl⟩
theorem tAcRun1Level4 (s : Bool) : Statement (.tAcRun1Level4 s) := ⟨Nat.le_of_ble_eq_true rfl, Nat.le_of_ble_eq_true rfl⟩
theorem tAcRun2Level3 (s : Bool) : Statement (.tAcRun2Level3 s) := ⟨Nat.le_of_ble_eq_true rfl, Nat.le_of_ble_eq_true rfl⟩
theorem tAcRun4Level2 (s : Bool) : Statement (.tAcRun4Level2 s) := ⟨Nat.le_of_ble_eq_true rfl, Nat.le_of_ble_eq_true rfl⟩
theorem tAcRun5Level2 (s : Bool) : Statement (.tAcRun5Level2 s) := ⟨Nat.le_of_ble_eq_true rfl, Nat.le_of_ble_eq_true rfl⟩
theorem tAcRun14Level1 (s : Bool) : Statement (.tAcRun14Level1 s) := ⟨Nat.le_of_ble_eq_true rfl, Nat.le_of_ble_eq_true rfl⟩
theorem tAcRun15Level1 (s : Bool) : Statement (.tAcRun15Level1 s) := ⟨Nat.le_of_ble_eq_true rfl, Nat.le_of_ble_eq_true rfl⟩
theorem tAcRun16Level1 (s : Bool) : Statement (.tAcRun16Level1 s) := ⟨Nat.le_of_ble_eq_true rfl, Nat.le_of_ble_eq_true rfl⟩
theorem tAcRun0Level8 (s : Bool) : Statement (.tAcRun0Level8 s) := ⟨Nat.le_of_ble_eq_true rfl, Nat.le_of_ble_eq_true rfl⟩
theorem tAcRun0Level9 (s : Bool) : Statement (.tAcRun0Level9 s) := ⟨Nat.le_of_ble_eq_true rfl, Nat.le_of_ble_eq_true rfl⟩
theorem tAcRun0Level10 (s : Bool) : Statement (.tAcRun0Level10 s) := ⟨Nat.le_of_ble_eq_true rfl, Nat.le_of_ble_eq_true rfl⟩
theorem tAcRun0Level11 (s : Bool) : Statement (.tAcRun0Level11 s) := ⟨Nat.le_of_ble_eq_true rfl, Nat.le_of_ble_eq_true rfl⟩
theorem tAcRun1Level5 (s : Bool) : Statement (.tAcRun1Level5 s) := ⟨Nat.le_of_ble_eq_true rfl, Nat.le_of_ble_eq_true rfl⟩
theorem tAcRun2Level4 (s : Bool) : Statement (.tAcRun2Level4 s) := ⟨Nat.le_of_ble_eq_true rfl, Nat.le_of_ble_eq_true rfl⟩
theorem tAcRun3Level3 (s : Bool) : Statement (.tAcRun3Level3 s) := ⟨Nat.le_of_ble_eq_true rfl, Nat.le_of_ble_eq_true rfl⟩
theorem tAcRun4Level3 (s : Bool) : Statement (.tAcRun4Level3 s) := ⟨Nat.le_of_ble_eq_true rfl, Nat.le_of_ble_eq_true rfl⟩
theorem tAcRun6Level2 (s : Bool) : Statement (.tAcRun6Level2 s) := ⟨Nat.le_of_ble_eq_true rfl, Nat.le_of_ble_eq_true rfl⟩
theorem tAcRun7Level2 (s : Bool) : Statement (.tAcRun7Level2 s) := ⟨Nat.le_of_ble_eq_true rfl, Nat.le_of_ble_eq_true rfl⟩
theorem tAcRun8Level2 (s : Bool) : Statement (.tAcRun8Level2 s) := ⟨Nat.le_of_ble_eq_true rfl, Nat.le_of_ble_eq_true rfl⟩
theorem tAcRun17Level1 (s : Bool) : Statement (.tAcRun17Level1 s) := ⟨Nat.le_of_ble_eq_true rfl, Nat.le_of_ble_eq_true rfl⟩
theorem tAcRun18Level1 (s : Bool) : Statement (.tAcRun18Level1 s) := ⟨Nat.le_of_ble_eq_true rfl, Nat.le_of_ble_eq_true rfl⟩
theorem tAcRun19Level1 (s : Bool) : Statement (.tAcRun19Level1 s) := ⟨Nat.le_of_ble_eq_true rfl, Nat.le_of_ble_eq_true rfl⟩
theorem tAcRun20Level1 (s : Bool) : Statement (.tAcRun20Level1 s) := ⟨Nat.le_of_ble_eq_true rfl, Nat.le_of_ble_eq_true rfl⟩
theorem tAcRun21Level1 (s : Bool) : Statement (.tAcRun21Level1 s) := ⟨Nat.le_of_ble_eq_true rfl, Nat.le_of_ble_eq_true rfl⟩
theorem tAcRun0Level12 (s : Bool) : Statement (.tAcRun0Level12 s) := ⟨Nat.le_of_ble_eq_true rfl, Nat.le_of_ble_eq_true rfl⟩
theorem tAcRun0Level13 (s : Bool) : Statement (.tAcRun0Level13 s) := ⟨Nat.le_of_ble_eq_true rfl, Nat.le_of_ble_eq_true rfl⟩
theorem tAcRun0Level14 (s : Bool) : Statement (.tAcRun0Level14 s) := ⟨Nat.le_of_ble_eq_true rfl, Nat.le_of_ble_eq_true rfl⟩
theorem tAcRun0Level15 (s : Bool) : Statement (.tAcRun0Level15 s) := ⟨Nat.le_of_ble_eq_true rfl, Nat.le_of_ble_eq_true rfl⟩
theorem tAcRun1Level6 (s : Bool) : Statement (.tAcRun1Level6 s) := ⟨Nat.le_of_ble_eq_true rfl, Nat.le_of_ble_eq_true rfl⟩
theorem tAcRun1Level7 (s : Bool) : Statement (.tAcRun1Level7 s) := ⟨Nat.le_of_ble_eq_true rfl, Nat.le_of_ble_eq_true rfl⟩
theorem tAcRun2Level5 (s : Bool) : Statement (.tAcRun2Level5 s) := ⟨Nat.le_of_ble_eq_true rfl, Nat.le_of_ble_eq_true rfl⟩
theorem tAcRun3Level4 (s : Bool) : Statement (.tAcRun3Level4 s) := ⟨Nat.le_of_ble_eq_true rfl, Nat.le_of_ble_eq_true rfl⟩
theorem tAcRun5Level3 (s : Bool) : Statement (.tAcRun5Level3 s) := ⟨Nat.le_of_ble_eq_true rfl, Nat.le_of_ble_eq_true rfl⟩
theorem tAcRun9Level2 (s : Bool) : Statement (.tAcRun9Level2 s) := ⟨Nat.le_of_ble_eq_true rfl, Nat.le_of_ble_eq_true rfl⟩
theorem tAcRun10Level2 (s : Bool) : Statement (.tAcRun10Level2 s) := ⟨Nat.le_of_ble_eq_true rfl, Nat.le_of_ble_eq_true rfl⟩
theorem tAcRun22Level1 (s : Bool) : Statement (.tAcRun22Level1 s) := ⟨Nat.le_of_ble_eq_true rfl, Nat.le_of_ble_eq_true rfl⟩
theorem tAcRun23Level1 (s : Bool) : Statement (.tAcRun23Level1 s) := ⟨Nat.le_of_ble_eq_true rfl, Nat.le_of_ble_eq_true rfl⟩
theorem tAcRun24Level1 (s : Bool) : Statement (.tAcRun24Level1 s) := ⟨Nat.le_of_ble_eq_true rfl, Nat.le_of_ble_eq_true rfl⟩
theorem tAcRun25Level1 (s : Bool) : Statement (.tAcRun25Level1 s) := ⟨Nat.le_of_ble_eq_true rfl, Nat.le_of_ble_eq_true rfl⟩
theorem tAcRun26Level1 (s : Bool) : Statement (.tAcRun26Level1 s) := ⟨Nat.le_of_ble_eq_true rfl, Nat.le_of_ble_eq_true rfl⟩
theorem tAcRun0Level16 (s : Bool) : Statement (.tAcRun0Level16 s) := ⟨Nat.le_of_ble_eq_true rfl, Nat.le_of_ble_eq_true rfl⟩
theorem tAcRun0Level17 (s : Bool) : Statement (.tAcRun0Level17 s) := ⟨Nat.le_of_ble_eq_true rfl, Nat.le_of_ble_eq_true rfl⟩
theorem tAcRun0Level18 (s : Bool) : Statement (.tAcRun0Level18 s) := ⟨Nat.le_of_ble_eq_true rfl, Nat.le_of_ble_eq_true rfl⟩
theorem tAcRun0Level19 (s : Bool) : Statement (.tAcRun0Level19 s) := ⟨Nat.le_of_ble_eq_true rfl, Nat.le_of_ble_eq_true rfl⟩
theorem tAcRun0Level20 (s : Bool) : Statement (.tAcRun0Level20 s) := ⟨Nat.le_of_ble_eq_true rfl, Nat.le_of_ble_eq_true rfl⟩
theorem tAcRun0Level21 (s : Bool) : Statement (.tAcRun0Level21 s) := ⟨Nat.le_of_ble_eq_true rfl, Nat.le_of_ble_eq_true rfl⟩
theorem tAcRun0Level22 (s : Bool) : Statement (.tAcRun0Level22 s) := ⟨Nat.le_of_ble_eq_true rfl, Nat.le_of_ble_eq_true rfl⟩
theorem tAcRun0Level23 (s : Bool) : Statement (.tAcRun0Level23 s) := ⟨Nat.le_of_ble_eq_true rfl, Nat.le_of_ble_eq_true rfl⟩
theorem tAcRun0Level24 (s : Bool) : Statement (.tAcRun0Level24 s) := ⟨Nat.le_of_ble_eq_true rfl, Nat.le_of_ble_eq_true rfl⟩
theorem tAcRun0Level25 (s : Bool) : Statement (.tAcRun0Level25 s) := ⟨Nat.le_of_ble_eq_true rfl, Nat.le_of_ble_eq_true rfl⟩
theorem tAcRun0Level26 (s : Bool) : Statement (.tAcRun0Level26 s) := ⟨Nat.le_of_ble_eq_true rfl, Nat.le_of_ble_eq_true rfl⟩
theorem tAcRun0Level27 (s : Bool) : Statement (.tAcRun0Level27 s) := ⟨Nat.le_of_ble_eq_true rfl, Nat.le_of_ble_eq_true rfl⟩
theorem tAcRun0Level28 (s : Bool) : Statement (.tAcRun0Level28 s) := ⟨Nat.le_of_ble_eq_true rfl, Nat.le_of_ble_eq_true rfl⟩
theorem tAcRun0Level29 (s : Bool) : Statement (.tAcRun0Level29 s) := ⟨Nat.le_of_ble_eq_true rfl, Nat.le_of_ble_eq_true rfl⟩
theorem tAcRun0Level30 (s : Bool) : Statement (.tAcRun0Level30 s) := ⟨Nat.le_of_ble_eq_true rfl, Nat.le_of_ble_eq_true rfl⟩
theorem tAcRun0Level31 (s : Bool) : Statement (.tAcRun0Level31 s) := ⟨Nat.le_of_ble_eq_true rfl, Nat.le_of_ble_eq_true rfl⟩
theorem tAcRun0Level32 (s : Bool) : Statement (.tAcRun0Level32 s) := ⟨Nat.le_of_ble_eq_true rfl, Nat.le_of_ble_eq_true rfl⟩
theorem tAcRun0Level33 (s : Bool) : Statement (.tAcRun0Level33 s) := ⟨Nat.le_of_ble_eq_true rfl, Nat.le_of_ble_eq_true rfl⟩
theorem tAcRun0Level34 (s : Bool) : Statement (.tAcRun0Level34 s) := ⟨Nat.le_of_ble_eq_true rfl, Nat.le_of_ble_eq_true rfl⟩
theorem tAcRun0Level35 (s : Bool) : Statement (.tAcRun0Level35 s) := ⟨Nat.le_of_ble_eq_true rfl, Nat.le_of_ble_eq_true rfl⟩
theorem tAcRun0Level36 (s : Bool) : Statement (.tAcRun0Level36 s) := ⟨Nat.le_of_ble_eq_true rfl, Nat.le_of_ble_eq_true rfl⟩
theorem tAcRun0Level37 (s : Bool) : Statement (.tAcRun0Level37 s) := ⟨Nat.le_of_ble_eq_true rfl, Nat.le_of_ble_eq_true rfl⟩
theorem tAcRun0Level38 (s : Bool) : Statement (.tAcRun0Level38 s) := ⟨Nat.le_of_ble_eq_true rfl, Nat.le_of_ble_eq_true rfl⟩
theorem tAcRun0Level39 (s : Bool) : Statement (.tAcRun0Level39 s) := ⟨Nat.le_of_ble_eq_true rfl, Nat.le_of_ble_eq_true rfl⟩
theorem tAcRun0Level40 (s : Bool) : Statement (.tAcRun0Level40 s) := ⟨Nat.le_of_ble_eq_true rfl, Nat.le_of_ble_eq_true rfl⟩
theorem tAcRun1Level8 (s : Bool) : Statement (.tAcRun1Level8 s) := ⟨Nat.le_of_ble_eq_true rfl, Nat.le_of_ble_eq_true rfl⟩
theorem tAcRun1Level9 (s : Bool) : Statement (.tAcRun1Level9 s) := ⟨Nat.le_of_ble_eq_true rfl, Nat.le_of_ble_eq_true rfl⟩
theorem tAcRun1Level10 (s : Bool) : Statement (.tAcRun1Level10 s) := ⟨Nat.le_of_ble_eq_true rfl, Nat.le_of_ble_eq_true rfl⟩
theorem tAcRun1Level11 (s : Bool) : Statement (.tAcRun1Level11 s) := ⟨Nat.le_of_ble_eq_true rfl, Nat.le_of_ble_eq_true rfl⟩
theorem tAcRun1Level12 (s : Bool) : Statement (.tAcRun1Level12 s) := ⟨Nat.le_of_ble_eq_true rfl, Nat.le_of_ble_eq_true rfl⟩
theorem tAcRun1Level13 (s : Bool) : Statement (.tAcRun1Level13 s) := ⟨Nat.le_of_ble_eq_true rfl, Nat.le_of_ble_eq_true rfl⟩
theorem tAcRun1Level14 (s : Bool) : Statement (.tAcRun1Level14 s) := ⟨Nat.le_of_ble_eq_true rfl, Nat.le_of_ble_eq_true rfl⟩
theorem tAcRun1Level15 (s : Bool) : Statement (.tAcRun1Level15 s) := ⟨Nat.le_of_ble_eq_true rfl, Nat.le_of_ble_eq_true rfl⟩
theorem tAcRun1Level16 (s : Bool) : Statement (.tAcRun1Level16 s) := ⟨Nat.le_of_ble_eq_true rfl, Nat.le_of_ble_eq_true rfl⟩
theorem tAcRun1Level17 (s : Bool) : Statement (.tAcRun1Level17 s) := ⟨Nat.le_of_ble_eq_true rfl, Nat.le_of_ble_eq_true rfl⟩
theorem tAcRun1Level18 (s : Bool) : Statement (.tAcRun1Level18 s) := ⟨Nat.le_of_ble_eq_true rfl, Nat.le_of_ble_eq_true rfl⟩
theorem tAcRun6Level3 (s : Bool) : Statement (.tAcRun6Level3 s) := ⟨Nat.le_of_ble_eq_true rfl, Nat.le_of_ble_eq_true rfl⟩
theorem tAcRun11Level2 (s : Bool) : Statement (.tAcRun11Level2 s) := ⟨Nat.le_of_ble_eq_true rfl, Nat.le_of_ble_eq_true rfl⟩
theorem tAcRun12Level2 (s : Bool) : Statement (.tAcRun12Level2 s) := ⟨Nat.le_of_ble_eq_true rfl, Nat.le_of_ble_eq_true rfl⟩
theorem tAcRun13Level2 (s : Bool) : Statement (.tAcRun13Level2 s) := ⟨Nat.le_of_ble_eq_true rfl, Nat.le_of_ble_eq_true rfl⟩
theorem tAcRun14Level2 (s : Bool) : Statement (.tAcRun14Level2 s) := ⟨Nat.le_of_ble_eq_true rfl, Nat.le_of_ble_eq_true rfl⟩
theorem tAcRun15Level2 (s : Bool) : Statement (.tAcRun15Level2 s) := ⟨Nat.le_of_ble_eq_true rfl, Nat.le_of_ble_eq_true rfl⟩
theorem tAcRun16Level2 (s : Bool) : Statement (.tAcRun16Level2 s) := ⟨Nat.le_of_ble_eq_true rfl, Nat.le_of_ble_eq_true rfl⟩
theorem tAcRun27Level1 (s : Bool) : Statement (.tAcRun27Level1 s) := ⟨Nat.le_of_ble_eq_true rfl, Nat.le_of_ble_eq_true rfl⟩
theorem tAcRun28Level1 (s : Bool) : Statement (.tAcRun28Level1 s) := ⟨Nat.le_of_ble_eq_true rfl, Nat.le_of_ble_eq_true rfl⟩
theorem tAcRun29Level1 (s : Bool) : Statement (.tAcRun29Level1 s) := ⟨Nat.le_of_ble_eq_true rfl, Nat.le_of_ble_eq_true rfl⟩
theorem tAcRun30Level1 (s : Bool) : Statement (.tAcRun30Level1 s) := ⟨Nat.le_of_ble_eq_true rfl, Nat.le_of_ble_eq_true rfl⟩
theorem tAcRun31Level1 (s : Bool) : Statement (.tAcRun31Level1 s) := ⟨Nat.le_of_ble_eq_true rfl, Nat.le_of_ble_eq_true rfl⟩
theorem tAcfRun0Level1First (s : Bool) : Statement (.tAcfRun0Level1First s) := ⟨Nat.le_of_ble_eq_true rfl, Nat.le_of_ble_eq_true rfl⟩
theorem tAcnEndOfBlock : Statement .tAcnEndOfBlock := ⟨by decide, by decide⟩
theorem tAcnRun0Level1Next (s : Bool) : Statement (.tAcnRun0Level1Next s) := ⟨Nat.le_of_ble_eq_true rfl, Nat.le_of_ble_eq_true rfl⟩
theorem tAcEscapeShort (run : BitVec 6) (lv : BitVec 8) : Statement (.tAcEscapeShort run lv) := ⟨Nat.le_of_ble_eq_true rfl, Nat.le_of_ble_eq_true rfl⟩
theorem tAcEscapeLongPos (run : BitVec 6) (m : BitVec 8) : Statement (.tAcEscapeLongPos run m) := ⟨Nat.le_of_ble_eq_true rfl, Nat.le_of_ble_eq_true rfl⟩
theorem tAcEscapeLongNeg (run : BitVec 6) (m : BitVec 8) : Statement (.tAcEscapeLongNeg run m) := ⟨Nat.le_of_ble_eq_true rfl, Nat.le_of_ble_eq_true rfl⟩
theorem dcDiffSize1 (d : BitVec 1) : Statement (.dcDiffSize1 d) := rfl
theorem dcDiffSize2 (d : BitVec 2) : Statement (.dcDiffSize2 d) := rfl
theorem dcDiffSize3 (d : BitVec 3) : Statement (.dcDiffSize3 d) := rfl
theorem dcDiffSize4 (d : BitVec 4) : Statement (.dcDiffSize4 d) := rfl
theorem dcDiffSize5 (d : BitVec 5) : Statement (.dcDiffSize5 d) := rfl
theorem dcDiffSize6 (d : BitVec 6) : Statement (.dcDiffSize6 d) := rfl
theorem dcDiffSize7 (d : BitVec 7) : Statement (.dcDiffSize7 d) := rfl
theorem dcDiffSize8 (d : BitVec 8) : Statement (.dcDiffSize8 d) := rfl
theorem mvResidualRSize1 (r : BitVec 1) : Statement (.mvResidualRSize1 r) := rfl
theorem mvResidualRSize2 (r : BitVec 2) : Statement (.mvResidualRSize2 r) := rfl
theorem mvResidualRSize3 (r : BitVec 3) : Statement (.mvResidualRSize3 r) := rfl
theorem mvResidualRSize4 (r : BitVec 4) : Statement (.mvResidualRSize4 r) := rfl
theorem mvResidualRSize5 (r : BitVec 5) : Statement (.mvResidualRSize5 r) := rfl
theorem mvResidualRSize6 (r : BitVec 6) : Statement (.mvResidualRSize6 r) := rfl
theorem tMbaIncr1 : Statement .tMbaIncr1 := ⟨by decide, by decide⟩
theorem tMbaIncr2 : Statement .tMbaIncr2 := ⟨by decide, by decide⟩
theorem tMbaIncr3 : Statement .tMbaIncr3 := ⟨by decide, by decide⟩
theorem tMbaIncr4 : Statement .tMbaIncr4 := ⟨by decide, by decide⟩
theorem tMbaIncr5 : Statement .tMbaIncr5 := ⟨by decide, by decide⟩
theorem tMbaIncr6 : Statement .tMbaIncr6 := ⟨by decide, by decide⟩
theorem tMbaIncr7 : Statement .tMbaIncr7 := ⟨by decide, by decide⟩
theorem tMbaIncr8 : Statement .tMbaIncr8 := ⟨by decide, by decide⟩
theorem tMbaIncr9 : Statement .tMbaIncr9 := ⟨by decide, by decide⟩
theorem tMbaIncr10 : Statement .tMbaIncr10 := ⟨by decide, by decide⟩
theorem tMbaIncr11 : Statement .tMbaIncr11 := ⟨by decide, by decide⟩
theorem tMbaIncr12 : Statement .tMbaIncr12 := ⟨by decide, by decide⟩
theorem tMbaIncr13 : Statement .tMbaIncr13 := ⟨by decide, by decide⟩
theorem tMbaIncr14 : Statement .tMbaIncr14 := ⟨by decide, by decide⟩
theorem tMbaIncr15 : Statement .tMbaIncr15 := ⟨by decide, by decide⟩
theorem tMbaIncr16 : Statement .tMbaIncr16 := ⟨by decide, by decide⟩
theorem tMbaIncr17 : Statement .tMbaIncr17 := ⟨by decide, by decide⟩
theorem tMbaIncr18 : Statement .tMbaIncr18 := ⟨by decide, by decide⟩
theorem tMbaIncr19 : Statement .tMbaIncr19 := ⟨by decide, by decide⟩
theorem tMbaIncr20 : Statement .tMbaIncr20 := ⟨by decide, by decide⟩
theorem tMbaIncr21 : Statement .tMbaIncr21 := ⟨by decide, by decide⟩
theorem tMbaIncr22 : Statement .tMbaIncr22 := ⟨by decide, by decide⟩
theorem tMbaIncr23 : Statement .tMbaIncr23 := ⟨by decide, by decide⟩
theorem tMbaIncr24 : Statement .tMbaIncr24 := ⟨by decide, by decide⟩
theorem tMbaIncr25 : Statement .tMbaIncr25 := ⟨by decide, by decide⟩
theorem tMbaIncr26 : Statement .tMbaIncr26 := ⟨by decide, by decide⟩
theorem tMbaIncr27 : Statement .tMbaIncr27 := ⟨by decide, by decide⟩
theorem tMbaIncr28 : Statement .tMbaIncr28 := ⟨by decide, by decide⟩
theorem tMbaIncr29 : Statement .tMbaIncr29 := ⟨by decide, by decide⟩
theorem tMbaIncr30 : Statement .tMbaIncr30 := ⟨by decide, by decide⟩
theorem tMbaIncr31 : Statement .tMbaIncr31 := ⟨by decide, by decide⟩
theorem tMbaIncr32 : Statement .tMbaIncr32 := ⟨by decide, by decide⟩
theorem tMbaIncr33 : Statement .tMbaIncr33 := ⟨by decide, by decide⟩
theorem tMbaStuffing : Statement .tMbaStuffing := ⟨by decide, by decide⟩
theorem tMbaEscape : Statement .tMbaEscape := ⟨by decide, by decide⟩
theorem tMbtIQ0f0b0p0i1 : Statement .tMbtIQ0f0b0p0i1 := ⟨by decide, by decide⟩
theorem tMbtIQ1f0b0p0i1 : Statement .tMbtIQ1f0b0p0i1 := ⟨by decide, by decide⟩
theorem tMbtPQ0f1b0p1i0 : Statement .tMbtPQ0f1b0p1i0 := ⟨by decide, by decide⟩
theorem tMbtPQ0f0b0p1i0 : Statement .tMbtPQ0f0b0p1i0 := ⟨by decide, by decide⟩
theorem tMbtPQ0f1b0p0i0 : Statement .tMbtPQ0f1b0p0i0 := ⟨by decide, by decide⟩
theorem tMbtPQ0f0b0p0i1 : Statement .tMbtPQ0f0b0p0i1 := ⟨by decide, by decide⟩
theorem tMbtPQ1f1b0p1i0 : Statement .tMbtPQ1f1b0p1i0 := ⟨by decide, by decide⟩
theorem tMbtPQ1f0b0p1i0 : Statement .tMbtPQ1f0b0p1i0 := ⟨by decide, by decide⟩
theorem tMbtPQ1f0b0p0i1 : Statement .tMbtPQ1f0b0p0i1 := ⟨by decide, by decide⟩
theorem tMbtBQ0f1b1p0i0 : Statement .tMbtBQ0f1b1p0i0 := ⟨by decide, by decide⟩
theorem tMbtBQ0f1b1p1i0 : Statement .tMbtBQ0f1b1p1i0 := ⟨by decide, by decide⟩
theorem tMbtBQ0f0b1p0i0 : Statement .tMbtBQ0f0b1p0i0 := ⟨by decide, by decide⟩
theorem tMbtBQ0f0b1p1i0 : Statement .tMbtBQ0f0b1p1i0 := ⟨by decide, by decide⟩
theorem tMbtBQ0f1b0p0i0 : Statement .tMbtBQ0f1b0p0i0 := ⟨by decide, by decide⟩
theorem tMbtBQ0f1b0p1i0 : Statement .tMbtBQ0f1b0p1i0 := ⟨by decide, by decide⟩
theorem tMbtBQ0f0b0p0i1 : Statement .tMbtBQ0f0b0p0i1 := ⟨by decide, by decide⟩
theorem tMbtBQ1f1b1p1i0 : Statement .tMbtBQ1f1b1p1i0 := ⟨by decide, by decide⟩
theorem tMbtBQ1f1b0p1i0 : Statement .tMbtBQ1f1b0p1i0 := ⟨by decide, by decide⟩
theorem tMbtBQ1f0b1p1i0 : Statement .tMbtBQ1f0b1p1i0 := ⟨by decide, by decide⟩
theorem tMbtBQ1f0b0p0i1 : Statement .tMbtBQ1f0b0p0i1 := ⟨by decide, by decide⟩
theorem tMbtDQ0f0b0p0i1 : Statement .tMbtDQ0f0b0p0i1 := ⟨by decide, by decide⟩
theorem tMvCode0 : Statement .tMvCode0 := ⟨by decide, by decide⟩
theorem tMvCode1 : Statement .tMvCode1 := ⟨by decide, by decide⟩
theorem tMvCodeM1 : Statement .tMvCodeM1 := ⟨by decide, by decide⟩
theorem tMvCode2 : Statement .tMvCode2 := ⟨by decide, by decide⟩
theorem tMvCodeM2 : Statement .tMvCodeM2 := ⟨by decide, by decide⟩
theorem tMvCode3 : Statement .tMvCode3 := ⟨by decide, by decide⟩
theorem tMvCodeM3 : Statement .tMvCodeM3 := ⟨by decide, by decide⟩
theorem tMvCode4 : Statement .tMvCode4 := ⟨by decide, by decide⟩
theorem tMvCodeM4 : Statement .tMvCodeM4 := ⟨by decide, by decide⟩
theorem tMvCode5 : Statement .tMvCode5 := ⟨by decide, by decide⟩
theorem tMvCodeM5 : Statement .tMvCodeM5 := ⟨by decide, by decide⟩
theorem tMvCode6 : Statement .tMvCode6 := ⟨by decide, by decide⟩
theorem tMvCodeM6 : Statement .tMvCodeM6 := ⟨by decide, by decide⟩
theorem tMvCode7 : Statement .tMvCode7 := ⟨by decide, by decide⟩
theorem tMvCodeM7 : Statement .tMvCodeM7 := ⟨by decide, by decide⟩
theorem tMvCode8 : Statement .tMvCode8 := ⟨by decide, by decide⟩
theorem tMvCodeM8 : Statement .tMvCodeM8 := ⟨by decide, by decide⟩
theorem tMvCode9 : Statement .tMvCode9 := ⟨by decide, by decide⟩
theorem tMvCodeM9 : Statement .tMvCodeM9 := ⟨by decide, by decide⟩
theorem tMvCode10 : Statement .tMvCode10 := ⟨by decide, by decide⟩
theorem tMvCodeM10 : Statement .tMvCodeM10 := ⟨by decide, by decide⟩
theorem tMvCode11 : Statement .tMvCode11 := ⟨by decide, by decide⟩
theorem tMvCodeM11 : Statement .tMvCodeM11 := ⟨by decide, by decide⟩
theorem tMvCode12 : Statement .tMvCode12 := ⟨by decide, by decide⟩
theorem tMvCodeM12 : Statement .tMvCodeM12 := ⟨by decide, by decide⟩
theorem tMvCode13 : Statement .tMvCode13 := ⟨by decide, by decide⟩
theorem tMvCodeM13 : Statement .tMvCodeM13 := ⟨by decide, by decide⟩
theorem tMvCode14 : Statement .tMvCode14 := ⟨by decide, by decide⟩
theorem tMvCodeM14 : Statement .tMvCodeM14 := ⟨by decide, by decide⟩
theorem tMvCode15 : Statement .tMvCode15 := ⟨by decide, by decide⟩
theorem tMvCodeM15 : Statement .tMvCodeM15 := ⟨by decide, by decide⟩
theorem tMvCode16 : Statement .tMvCode16 := ⟨by decide, by decide⟩
theorem tMvCodeM16 : Statement .tMvCodeM16 := ⟨by decide, by decide⟩
theorem tCbpCbp60 : Statement .tCbpCbp60 := ⟨by decide, by decide⟩
theorem tCbpCbp4 : Statement .tCbpCbp4 := ⟨by decide, by decide⟩
theorem tCbpCbp8 : Statement .tCbpCbp8 := ⟨by decide, by decide⟩
theorem tCbpCbp16 : Statement .tCbpCbp16 := ⟨by decide, by decide⟩
theorem tCbpCbp32 : Statement .tCbpCbp32 := ⟨by decide, by decide⟩
theorem tCbpCbp12 : Statement .tCbpCbp12 := ⟨by decide, by decide⟩
theorem tCbpCbp48 : Statement .tCbpCbp48 := ⟨by decide, by decide⟩
theorem tCbpCbp20 : Statement .tCbpCbp20 := ⟨by decide, by decide⟩
theorem tCbpCbp40 : Statement .tCbpCbp40 := ⟨by decide, by decide⟩
theorem tCbpCbp28 : Statement .tCbpCbp28 := ⟨by decide, by decide⟩
theorem tCbpCbp44 : Statement .tCbpCbp44 := ⟨by decide, by decide⟩
theorem tCbpCbp52 : Statement .tCbpCbp52 := ⟨by decide, by decide⟩
theorem tCbpCbp56 : Statement .tCbpCbp56 := ⟨by decide, by decide⟩
theorem tCbpCbp1 : Statement .tCbpCbp1 := ⟨by decide, by decide⟩
theorem tCbpCbp61 : Statement .tCbpCbp61 := ⟨by decide, by decide⟩
theorem tCbpCbp2 : Statement .tCbpCbp2 := ⟨by decide, by decide⟩
theorem tCbpCbp62 : Statement .tCbpCbp62 := ⟨by decide, by decide⟩
theorem tCbpCbp24 : Statement .tCbpCbp24 := ⟨by decide, by decide⟩
theorem tCbpCbp36 : Statement .tCbpCbp36 := ⟨by decide, by decide⟩
theorem tCbpCbp3 : Statement .tCbpCbp3 := ⟨by decide, by decide⟩
theorem tCbpCbp63 : Statement .tCbpCbp63 := ⟨by decide, by decide⟩
theorem tCbpCbp5 : Statement .tCbpCbp5 := ⟨by decide, by decide⟩
theorem tCbpCbp9 : Statement .tCbpCbp9 := ⟨by decide, by decide⟩
theorem tCbpCbp17 : Statement .tCbpCbp17 := ⟨by decide, by decide⟩
theorem tCbpCbp33 : Statement .tCbpCbp33 := ⟨by decide, by decide⟩
theorem tCbpCbp6 : Statement .tCbpCbp6 := ⟨by decide, by decide⟩
theorem tCbpCbp10 : Statement .tCbpCbp10 := ⟨by decide, by decide⟩
theorem tCbpCbp18 : Statement .tCbpCbp18 := ⟨by decide, by decide⟩
theorem tCbpCbp34 : Statement .tCbpCbp34 := ⟨by decide, by decide⟩
theorem tCbpCbp7 : Statement .tCbpCbp7 := ⟨by decide, by decide⟩
theorem tCbpCbp11 : Statement .tCbpCbp11 := ⟨by decide, by decide⟩
theorem tCbpCbp19 : Statement .tCbpCbp19 := ⟨by decide, by decide⟩
theorem tCbpCbp35 : Statement .tCbpCbp35 := ⟨by decide, by decide⟩
theorem tCbpCbp13 : Statement .tCbpCbp13 := ⟨by decide, by decide⟩
theorem tCbpCbp49 : Statement .tCbpCbp49 := ⟨by decide, by decide⟩
theorem tCbpCbp21 : Statement .tCbpCbp21 := ⟨by decide, by decide⟩
theorem tCbpCbp41 : Statement .tCbpCbp41 := ⟨by decide, by decide⟩
theorem tCbpCbp14 : Statement .tCbpCbp14 := ⟨by decide, by decide⟩
theorem tCbpCbp50 : Statement .tCbpCbp50 := ⟨by decide, by decide⟩
theorem tCbpCbp22 : Statement .tCbpCbp22 := ⟨by decide, by decide⟩
theorem tCbpCbp42 : Statement .tCbpCbp42 := ⟨by decide, by decide⟩
theorem tCbpCbp15 : Statement .tCbpCbp15 := ⟨by decide, by decide⟩
theorem tCbpCbp51 : Statement .tCbpCbp51 := ⟨by decide, by decide⟩
theorem tCbpCbp23 : Statement .tCbpCbp23 := ⟨by decide, by decide⟩
theorem tCbpCbp43 : Statement .tCbpCbp43 := ⟨by decide, by decide⟩
theorem tCbpCbp25 : Statement .tCbpCbp25 := ⟨by decide, by decide⟩
theorem tCbpCbp37 : Statement .tCbpCbp37 := ⟨by decide, by decide⟩
theorem tCbpCbp26 : Statement .tCbpCbp26 := ⟨by decide, by decide⟩
theorem tCbpCbp38 : Statement .tCbpCbp38 := ⟨by decide, by decide⟩
theorem tCbpCbp29 : Statement .tCbpCbp29 := ⟨by decide, by decide⟩
theorem tCbpCbp45 : Statement .tCbpCbp45 := ⟨by decide, by decide⟩
theorem tCbpCbp53 : Statement .tCbpCbp53 := ⟨by decide, by decide⟩
theorem tCbpCbp57 : Statement .tCbpCbp57 := ⟨by decide, by decide⟩
theorem tCbpCbp30 : Statement .tCbpCbp30 := ⟨by decide, by decide⟩
theorem tCbpCbp46 : Statement .tCbpCbp46 := ⟨by decide, by decide⟩
theorem tCbpCbp54 : Statement .tCbpCbp54 := ⟨by decide, by decide⟩
theorem tCbpCbp58 : Statement .tCbpCbp58 := ⟨by decide, by decide⟩
theorem tCbpCbp31 : Statement .tCbpCbp31 := ⟨by decide, by decide⟩
theorem tCbpCbp47 : Statement .tCbpCbp47 := ⟨by decide, by decide⟩
theorem tCbpCbp55 : Statement .tCbpCbp55 := ⟨by decide, by decide⟩
theorem tCbpCbp59 : Statement .tCbpCbp59 := ⟨by decide, by decide⟩
theorem tCbpCbp27 : Statement .tCbpCbp27 := ⟨by decide, by decide⟩
theorem tCbpCbp39 : Statement .tCbpCbp39 := ⟨by decide, by decide⟩
theorem tDclSize0 : Statement .tDclSize0 := ⟨by decide, by decide⟩
theorem tDclSize1 : Statement .tDclSize1 := ⟨by decide, by decide⟩
theorem tDclSize2 : Statement .tDclSize2 := ⟨by decide, by decide⟩
theorem tDclSize3 : Statement .tDclSize3 := ⟨by decide, by decide⟩
theorem tDclSize4 : Statement .tDclSize4 := ⟨by decide, by decide⟩
theorem tDclSize5 : Statement .tDclSize5 := ⟨by decide, by decide⟩
theorem tDclSize6 : Statement .tDclSize6 := ⟨by decide, by decide⟩
theorem tDclSize7 : Statement .tDclSize7 := ⟨by decide, by decide⟩
theorem tDclSize8 : Statement .tDclSize8 := ⟨by decide, by decide⟩
theorem tDccSize0 : Statement .tDccSize0 := ⟨by decide, by decide⟩
theorem tDccSize1 : Statement .tDccSize1 := ⟨by decide, by decide⟩
theorem tDccSize2 : Statement .tDccSize2 := ⟨by decide, by decide⟩
theorem tDccSize3 : Statement .tDccSize3 := ⟨by decide, by decide⟩
theorem tDccSize4 : Statement .tDccSize4 := ⟨by decide, by decide⟩
theorem tDccSize5 : Statement .tDccSize5 := ⟨by decide, by decide⟩
theorem tDccSize6 : Statement .tDccSize6 := ⟨by decide, by decide⟩
theorem tDccSize7 : Statement .tDccSize7 := ⟨by decide, by decide⟩
theorem tDccSize8 : Statement .tDccSize8 := ⟨by decide, by decide⟩

end EncodedLength

end Sys2Proof.Laws
end

