-- ==== Sys2Proof/Tests/Slice0.lean ====
section
/-! SUPPORT. The model's own tests. Expected results come from spec/opcode_table.json, from 30_encoding.md and from the vectors
of 95_test_vectors.md (their names stand in the comments). Then, for each obligation with hypotheses, values that meet them. -/

namespace Sys2Proof.Tests

open Sys2Proof.Machine Sys2Proof.SpecTables

/-! ## States and answers -/

/-- Reset, with this stream and the cursor at its start. -/
def onStream (bits : Bits) : State := { State.reset with bs := bits }

/-- The host presents this command word next. -/
def given (w : Word) (s : State) : State := { s with port := [.command w] }

/-- The cursor and the latest record after one step. -/
def answer (s : State) : Option (Nat × Response) :=
  match step s with
  | .next t => t.responses.head?.map fun r => (t.pos, r)
  | .fault _ => none
  | .refused _ => none

/-- The state after one step. -/
def after (s : State) : Option State :=
  match step s with
  | .next t => some t
  | .fault _ => none
  | .refused _ => none

/-- Why a step was refused. -/
def refusal (s : State) : Option Refusal :=
  match step s with
  | .next _ => none
  | .fault _ => none
  | .refused r => some r

/-- A direction set up with this f-code (R161: the scale, the residual length). -/
def setUp (f : BitVec 7) (rSize : BitVec 3) (fullPel : Bool) (h v : BitVec 12) : Mvr :=
  { prevH := h, prevV := v, f := f, rSize := rSize, fullPel := fullPel, valid := true }

/-- All 64 coefficients written, entry `i` with `v i`. -/
def coefficients (v : Nat → BitVec 16) : Memory := (List.range 64).map fun i => (i, v i)

/-- A state in the error state: `InvalidVlcCode` of a `VLD.MBA` at position 11 (program P3). -/
def failed : State :=
  { onStream (code 22 0) with pos := 11, err := true, ecode := 2, eop := 0x01, epos := 11 }

/-! ## WellFormed smoke: a short escape never holds a level byte that announces a long form (R100) -/

theorem test_wellFormed_refuses_level_00 : (Instr.tAcEscapeShort 2 0x00).wellFormed = false := by decide
theorem test_wellFormed_refuses_level_80 : (Instr.tAcEscapeShort 2 0x80).wellFormed = false := by decide
theorem test_wellFormed_takes_level_7f : (Instr.tAcEscapeShort 2 0x7F).wellFormed = true := by decide

/-! ## Decoding: every constructor from its own word -/

/-- The 23 command words (R82), operand fields and ignored bits set where they tell fields apart. -/
def commandWords : List (Word × Instr) :=
  [(0x00ABCDEF, .nop), (0x01000000, .vldMba), (0x02000001, .vldMbtI), (0x02FFFFFA, .vldMbtP), (0x02000003, .vldMbtB),
   (0x02000004, .vldMbtD), (0x03000000, .vldMv), (0x04000000, .vldCbp), (0x05000000, .vldDcl), (0x06000000, .vldDcc),
   (0x07000003, .vldDcd 3), (0x07000009, .vldDcd 9), (0x08000000, .vldAcf), (0x09000000, .vldAcn),
   (0x1000000B, .mvrSetupF true 3), (0x11000008, .mvrSetupB true 0), (0x12000000, .mvrResetF), (0x13000000, .mvrResetB),
   (0x1403F043, .mvrCalcF 0 63 1 3), (0x150C0F80, .mvrCalcB 3 0 0x3E 0), (0x203FF800, .cbWr 63 0xF800),
   (0x20050800, .cbWr 5 0x0800), (0x213F0000, .cbRd 63), (0x22000000, .idctBlk), (0x3F000000, .status)]

theorem test_decode_commands : ∀ r ∈ commandWords, decodeCommand r.1 = .ok r.2 := by decide

theorem test_decode_reserved_opcode : decodeCommand 0x0A000000 = .error .reservedOpcode := by decide
theorem test_decode_reserved_selector : decodeCommand 0x02000000 = .error .reservedSelector := by decide

theorem test_decode_mbaIncrements : ∀ r ∈ mbaIncrements, decode (.vlc .mba) r.2.1 = .ok r.1 [] := by decide

theorem test_decode_mbaSkips :
    decode (.vlc .mba) (code 11 0b00000001111) = .ok .tMbaStuffing [] ∧
      decode (.vlc .mba) (code 11 0b00000001000) = .ok .tMbaEscape [] := by decide

theorem test_decode_macroblockTypes : ∀ r ∈ macroblockTypes, decode (.vlc r.1) r.2.2.1 = .ok r.2.1 [] := by
  decide

theorem test_decode_motionCodes : ∀ r ∈ motionCodes, decode (.vlc .mv) r.2.1 = .ok r.1 [] := by decide

theorem test_decode_blockPatterns : ∀ r ∈ blockPatterns, decode (.vlc .cbp) r.2.1 = .ok r.1 [] := by decide

theorem test_decode_dcSizes : ∀ r ∈ dcSizes, decode (.vlc r.1) r.2.2.1 = .ok r.2.1 [] := by decide

theorem test_decode_runLevels : ∀ r ∈ runLevels, ∀ b : Bool,
    decode (.vlc .acf) (r.2.1 ++ [b]) = .ok (r.1 b) [] ∧ decode (.vlc .acn) (r.2.1 ++ [b]) = .ok (r.1 b) [] := by
  decide +kernel

/-- The same two bits are run 0 level 1 first in a block and end of block later (R99; VC1, VC3, VC5). -/
theorem test_decode_shortAcCodes :
    decode (.vlc .acf) (code 2 0b10) = .ok (.tAcfRun0Level1First false) [] ∧
      decode (.vlc .acf) (code 2 0b11) = .ok (.tAcfRun0Level1First true) [] ∧
      decode (.vlc .acn) (code 2 0b10) = .ok .tAcnEndOfBlock [] ∧
      decode (.vlc .acn) (code 3 0b110) = .ok (.tAcnRun0Level1Next false) [] ∧
      decode (.vlc .acn) (code 3 0b111) = .ok (.tAcnRun0Level1Next true) [] := by decide

/-- VC13, VC11, VC12. -/
theorem test_decode_escapes :
    decode (.vlc .acf) (code 20 0b00000111111111111111) = .ok (.tAcEscapeShort 63 0xFF) [] ∧
      decode (.vlc .acn) (code 28 0b0000010000110000000010000001) = .ok (.tAcEscapeLongPos 3 0x81) [] ∧
      decode (.vlc .acf) (code 28 0b0000010000001000000000000001) = .ok (.tAcEscapeLongNeg 0 0x01) [] := by
  decide

theorem test_decode_dcDiffs :
    decode (.dcDiff 1) [true] = .ok (.dcDiffSize1 1) [] ∧
      decode (.dcDiff 2) [true, false] = .ok (.dcDiffSize2 0b10) [] ∧
      decode (.dcDiff 3) [false, true, true] = .ok (.dcDiffSize3 0b011) [] ∧
      decode (.dcDiff 4) [true, false, true, true] = .ok (.dcDiffSize4 0b1011) [] ∧
      decode (.dcDiff 5) [true, false, false, false, true] = .ok (.dcDiffSize5 0b10001) [] ∧
      decode (.dcDiff 6) [false, true, false, false, false, true] = .ok (.dcDiffSize6 0b010001) [] ∧
      decode (.dcDiff 7) [true, true, false, false, false, false, true] = .ok (.dcDiffSize7 0b1100001) [] ∧
      decode (.dcDiff 8) [false, true, true, true, true, true, true, true] = .ok (.dcDiffSize8 0b01111111) [] := by
  decide

theorem test_decode_mvResiduals :
    decode (.residual 1) [true] = .ok (.mvResidualRSize1 1) [] ∧
      decode (.residual 2) [true, false] = .ok (.mvResidualRSize2 0b10) [] ∧
      decode (.residual 3) [false, true, true] = .ok (.mvResidualRSize3 0b011) [] ∧
      decode (.residual 4) [true, false, true, true] = .ok (.mvResidualRSize4 0b1011) [] ∧
      decode (.residual 5) [true, false, false, false, true] = .ok (.mvResidualRSize5 0b10001) [] ∧
      decode (.residual 6) [false, true, false, false, false, true] = .ok (.mvResidualRSize6 0b010001) [] := by
  decide

/-- The all-zero windows of VA9, VC10 and a truncated escape. -/
theorem test_decode_rejects :
    decode (.vlc .mba) (code 11 0) = .error .invalidCode ∧
      decode (.vlc .acn) (code 17 0b00000000000010000) = .error .invalidCode ∧
      decode (.vlc .acf) (code 19 0b0000010000100000000) = .error .truncated ∧
      decode .command (code 31 0) = .error .truncated ∧ decode (.dcDiff 9) (code 9 0) = .error .noSuchField := by
  decide

/-- Row counts of 30_encoding.md R89 to R99. -/
theorem test_table_sizes :
    Table.mba.rows.length = 35 ∧ Table.mbtI.rows.length = 2 ∧ Table.mbtP.rows.length = 7 ∧ Table.mbtB.rows.length = 11 ∧
      Table.mbtD.rows.length = 1 ∧ Table.mv.rows.length = 33 ∧ Table.cbp.rows.length = 63 ∧ Table.dcl.rows.length = 9 ∧
      Table.dcc.rows.length = 9 ∧ Table.acf.rows.length = 223 ∧ Table.acn.rows.length = 224 := by decide +kernel

/-- Every instruction has one row: the tables of the tests hold 323 constructors. -/
theorem test_row_count :
    23 + mbaIncrements.length + 2 + macroblockTypes.length + motionCodes.length + blockPatterns.length +
      dcSizes.length + runLevels.length + 3 + 3 + 8 + 6 = 323 := by decide

/-- A row of the opcode table placed by `withFetchWord` is what the next step runs. -/
theorem test_withFetchWord :
    decodeTableWord 32 0x1403F043 = some (.mvrCalcF 0 63 1 3) ∧ decodeTableWord 8 0b11111110 = some .tDccSize8 ∧
      decodeTableWord 16 0b0000000000111110 = some (.tAcRun1Level8 false) ∧
      answer (State.reset.withFetchWord 8 0b11111110) = some (8, .dcSize 8) ∧
      answer (State.reset.withFetchWord 16 0b0000000000111110) = some (16, .ac false false 1 8) ∧
      answer (State.reset.withFetchWord 32 0x3F000000) = some (0, .status 0 0) := by decide

/-! ## Bits and arithmetic -/

/-- S2: the stream is most significant bit first. -/
theorem test_stream_bit_order : bitsToNat (bitsOfBytes [0x00, 0x00, 0x01]) = 1 := by decide

/-- 45_arithmetic_and_control.md R205 (b): with `INCR_W` of 6 bits, 63 is delivered and 64 refused, not wrapped to 0. -/
theorem test_fixed_incrW :
    withinIncr (some 6) 63 (.next (respond (.mba 63) State.reset)) = .next (respond (.mba 63) State.reset) ∧
      withinIncr (some 6) 64 (.next (respond (.mba 64) State.reset)) = .refused (.incrementTooWide 64) := ⟨rfl, rfl⟩

/-- S1. -/
theorem test_bitReadS :
    (bitReadS 4 (onStream (code 4 0b1010))).map Prod.fst = some (-6) ∧
      (bitReadS 4 (onStream (code 4 0b0101))).map Prod.fst = some 5 := by decide

/-- The values after VI8. -/
theorem test_rndShift :
    [-13, -12, -11, -5, -4, -3, -1, 0, 1, 3, 4, 5, 11, 12, 13].map (fun v => rndShift v 3) =
      [-2, -2, -1, -1, -1, 0, 0, 0, 0, 0, 1, 1, 1, 2, 2] := by decide

/-- VR6 in both settings of `CHROMA_HALVE`. -/
theorem test_outputs_odd_negative :
    outputs false (-3) = ⟨-3, -2, true, -2, -1, false⟩ ∧ outputsWith .trunc false (-3) = ⟨-3, -2, true, -1, -1, true⟩ := by
  decide

/-- R104: a forbidden level is passed, and under `ESC_FORBIDDEN = fault` raises after the fields are consumed. -/
theorem test_escape_forbidden :
    (escapeFinish .pass 2 0 true (onStream [])).responses = [.ac false true 2 0] ∧
      (escapeFinish .fault 2 0 true (onStream [])).responses = [.err 2] ∧
      (escapeFinish .fault 2 128 false (onStream [])).responses = [.ac false true 2 128] := by decide

/-- The row pass and the residuals of VI2: 100 in entry 1 only. -/
theorem test_idct_VI2 :
    Config.idct1d.run Config.sRow ⟨0, 100, 0, 0, 0, 0, 0, 0⟩ = ⟨1110, 941, 629, 221, -221, -629, -941, -1110⟩ ∧
      (idct2d (blockOf (coefficients fun i => if i = 1 then 100 else 0))).get 0 = ⟨17, 15, 10, 3, -3, -10, -15, -17⟩ := by
  decide

/-- VI5: a mixed block, first and last row. -/
theorem test_idct_VI5 :
    let b := blockOf (coefficients fun i =>
      if i = 0 then 240 else if i = 1 then -31 else if i = 2 then 9 else if i = 8 then 17 else if i = 9 then 5
      else if i = 16 then -3 else 0)
    (idct2d b).get 0 = ⟨30, 30, 29, 30, 32, 34, 37, 38⟩ ∧ (idct2d b).get 7 = ⟨21, 22, 22, 24, 26, 30, 33, 35⟩ := by
  decide

/-- VI6: the largest block. -/
theorem test_idct_VI6 :
    (idct2d (blockOf (coefficients fun _ => 2047))).get 0 = ⟨14286, -3897, 3090, -1088, 1670, -163, 969, 427⟩ := by
  decide

/-! ## One step of each command -/

/-- VA4. -/
theorem test_mba_stuffing_escape :
    answer (given 0x01000000 (onStream (code 33 0b000000011110000000100001100000000))) = some (25, .mba 35) := by
  decide

/-- VA7: the stuffing stays consumed. -/
theorem test_mba_invalid_after_stuffing :
    (after (given 0x01000000 (onStream (code 22 0b0000000111100000001001)))).map
      (fun t => (t.pos, t.responses, t.ecode, t.eop, t.epos)) = some (11, [.err 2], 2, 0x01, 11) := by decide

/-- VT2. -/
theorem test_mbtI :
    answer (given 0x02000001 (onStream [false, true])) = some (2, .mbt ⟨true, false, false, false, true⟩) := by
  decide

/-- VT5. -/
theorem test_mbtP :
    answer (given 0x02000002 (onStream (code 6 0b000100))) = some (5, .mbt ⟨true, true, false, true, false⟩) := by
  decide

/-- VT8: the code is complete but the window is short. -/
theorem test_mbtP_short : answer (given 0x02000002 (onStream [true])) = some (0, .err 1) := by decide

/-- VT9. -/
theorem test_mbtB :
    answer (given 0x02000003 (onStream (code 6 0b110000))) = some (2, .mbt ⟨false, true, true, true, false⟩) := by
  decide

/-- VT12. -/
theorem test_mbtD_invalid : answer (given 0x02000004 (onStream [false])) = some (0, .err 2) := by decide

/-- VM6. -/
theorem test_mv : answer (given 0x03000000 (onStream (code 11 0b00000011001))) = some (11, .mv (-16)) := by
  decide

/-- VP2. -/
theorem test_cbp : answer (given 0x04000000 (onStream (code 9 0b010110000))) = some (5, .cbp 1) := by decide

/-- VD5. -/
theorem test_dcl_short : answer (given 0x05000000 (onStream (code 6 0b101000))) = some (0, .err 1) := by decide

/-- VD3. -/
theorem test_dcl : answer (given 0x05000000 (onStream (code 7 0b1111110))) = some (7, .dcSize 8) := by decide

/-- VD7. -/
theorem test_dcc : answer (given 0x06000000 (onStream (code 8 0b11000000))) = some (3, .dcSize 3) := by decide

/-- VD13. -/
theorem test_dcd : answer (given 0x07000003 (onStream (code 3 0b011))) = some (3, .dcDiff (-4)) := by decide

/-- VD17. -/
theorem test_dcd_widest : answer (given 0x07000008 (onStream (code 8 0b01111111))) = some (8, .dcDiff (-128)) := by
  decide

/-- VC22: the escape code and the run stay consumed. -/
theorem test_acf_truncated :
    (after (given 0x08000000 (onStream (code 19 0b0000010000100000000)))).map (fun t => (t.pos, t.responses, t.epos)) =
      some (12, [.err 1], 12) := by decide

/-- VC8. -/
theorem test_acf : answer (given 0x08000000 (onStream (code 17 0b00000000000100001))) = some (17, .ac false false 1 (-18)) := by
  decide

/-- VC12. -/
theorem test_acn_escape :
    answer (given 0x09000000 (onStream (code 28 0b0000010000001000000000000001))) = some (28, .ac false true 0 (-255)) := by
  decide

/-- VC26. -/
theorem test_acn_end_of_block :
    answer (given 0x09000000 (onStream (code 17 0b10000000000000000))) = some (2, .ac true false 0 0) := by decide

/-- VS4: what `MVR.SETUP.F` leaves. -/
theorem test_setupF :
    (after (given 0x1000000B State.reset)).map (fun t => (t.mvrF, t.mvrB, t.responses, statusWord t)) =
      some (setUp 4 2 true 0 0, Mvr.reset, [.setup 4 2], 0x00109000) := by decide

/-- VR9. -/
theorem test_setupB_zero_fcode :
    (after (given 0x11000008 State.reset)).map (fun t => (t.mvrB.valid, t.responses, statusWord t)) =
      some (false, [.err 4], 0x00000119) := by decide

/-- VR7: the accumulators of VR6 zeroed. -/
theorem test_resetF :
    (after (given 0x12000000 { State.reset with mvrF := setUp 1 0 false (-3) 0 })).map (·.mvrF) =
      some (setUp 1 0 false 0 0) := by decide

/-- VR12. -/
theorem test_resetB_invalid : (after (given 0x13000000 State.reset)).map (fun t => (t.mvrB.valid, t.responses)) =
    some (false, [.ok]) := by decide

/-- VR5: both axes wrap. -/
theorem test_calcF_wraps :
    (after (given 0x14400C00 { State.reset with mvrF := setUp 4 2 false 61 (-57) })).map
        (fun t => (t.mvrF.prevH, t.mvrF.prevV, t.responses)) =
      some (-6, 10, [.vector ⟨-6, -3, false, -3, -2, true⟩ ⟨10, 5, false, 5, 2, true⟩]) := by decide

/-- VR10: a residual not below the scale. -/
theorem test_calcF_residual :
    (after (given 0x14044000 { State.reset with mvrF := setUp 4 2 false 0 0 })).map
        (fun t => (t.mvrF.prevH, t.responses, statusWord t)) = some (0, [.err 5], 0x0000914B) := by decide

/-- P5, step 4. -/
theorem test_calcB_full_pel :
    answer (given 0x150C0F80 { State.reset with mvrB := setUp 1 0 true 15 (-16) }) =
      some (0, .vector ⟨-28, -14, false, -14, -7, false⟩ ⟨28, 14, false, 14, 7, false⟩) := by decide

/-- VI9. -/
theorem test_cbWr : (after (given 0x203FF800 State.reset)).map (·.cb) = some [(63, 0xF800)] := by decide

/-- Writing an entry again replaces it; the order stays canonical. -/
theorem test_cbWr_again :
    (after (given 0x20050800 { State.reset with cb := [(3, 7), (5, 1), (9, 2)] })).map (·.cb) =
      some [(3, 7), (5, 0x0800), (9, 2)] := by decide

/-- VI9 and U4. -/
theorem test_cbRd :
    answer (given 0x213F0000 { State.reset with cb := [(63, 0xF800)] }) = some (0, .value 0xF800) ∧
      refusal (given 0x213F0000 State.reset) = some (.coefficientUnwritten 63) := by decide

/-- P2, step 69: 1072 alone becomes 64 times 134. -/
theorem test_idctBlk :
    (after (given 0x22000000 { State.reset with cb := coefficients fun i => if i = 0 then 1072 else 0 })).map (·.cb) =
      some (coefficients fun _ => 134) := by decide

/-- VI11. -/
theorem test_idctBlk_range :
    (after (given 0x22000000 { State.reset with cb := coefficients fun i => if i = 5 then 2048 else 0 })).map
        (fun t => (t.cb.read 5, t.responses, statusWord t)) = some (some 2048, [.err 5], 0x0000022B) := by decide

/-- VS2 and P3, step 8. -/
theorem test_nop :
    answer (given 0x00000000 State.reset) = some (0, .ok) ∧ answer (given 0x00000000 failed) = some (11, .err 2) := by
  decide

/-- P3, step 4. -/
theorem test_status :
    answer (given 0x3F000000 { failed with mvrF := setUp 4 2 true 0 0 }) = some (11, .status 0x00109015 11) := by
  decide

/-- VS3 and VT13. -/
theorem test_reserved_words :
    (after (given 0x0A000000 State.reset)).map (fun t => (t.responses, statusWord t)) = some ([.err 5], 0x000000AB) ∧
      (after (given 0x02000000 State.reset)).map (fun t => (t.responses, statusWord t)) = some ([.err 5], 0x0000002B) := by
  decide

/-- P3, step 10: the reset event. -/
theorem test_reset_event :
    (after { failed with port := [.reset] }).map (fun t => (t.pos, t.err, t.responses, statusWord t)) =
      some (11, false, [], 0) := by decide

/-- P1, step 5, and U12. -/
theorem test_host_read :
    answer { onStream (code 6 0b010100) with port := [.bitRead 5] } = some (5, .hostBits 10) ∧
      answer { onStream (code 4 0) with port := [.bitRead 5] } = some (0, .hostEndOfStream) ∧
      refusal { onStream (code 40 0) with port := [.bitPeek 33] } = some (.peekWidth 33) := by decide

/-! ## Values that meet the hypotheses of the obligations, one theorem for each, every clause at its edge -/

/-- `ResetClearsValidStatusAndBuffer`. -/
theorem witness_reset_states :
    (State.reset = State.reset ∨ ∃ s0, State.reset = resetEvent s0) ∧
      (resetEvent failed = State.reset ∨ ∃ s0, resetEvent failed = resetEvent s0) ∧ resetEvent failed ≠ State.reset :=
  ⟨.inl rfl, .inr ⟨failed, rfl⟩, by decide⟩

/-- `ResetEventMovesNoCursor`. -/
theorem witness_reset_event :
    ({ failed with port := [.reset] } : State).port = .reset :: [] ∧
      ({ failed with port := [.resetDuring 0x22000000, .reset] } : State).port = .resetDuring 0x22000000 :: [.reset] :=
  ⟨rfl, rfl⟩

/-- `StepRunsTheDecodedCommand`: a word with ignored bits set, and an instruction with operands at their largest. -/
theorem witness_step_command :
    (given 0x02FFFFFA failed).port = .command 0x02FFFFFA :: [] ∧ decodeCommand 0x02FFFFFA = .ok .vldMbtP ∧
      (Instr.cbWr 63 0xFFFF).ctx = .command ∧
      (given (commandWord (.cbWr 63 0xFFFF)) failed).port = .command (commandWord (.cbWr 63 0xFFFF)) :: [] := by
  decide

/-- `ReservedWordsRaiseProtocolError`: either reason, in either state of the block. -/
theorem witness_reserved_words :
    ((given 0xFF000000 failed).port = .command 0xFF000000 :: [] ∧ decodeCommand 0xFF000000 = .error .reservedOpcode) ∧
      ((given 0x02000005 State.reset).port = .command 0x02000005 :: [] ∧
        decodeCommand 0x02000005 = .error .reservedSelector) := by decide

/-- `IdleStepChangesNothing`. -/
theorem witness_idle : State.reset.port = [] := rfl

/-- `HostReadsFollowTheBitReaderContract`: widths 0 and 33 outside it, 32 bits of 31, 1 bit and 32 bits read. -/
theorem witness_host_reads :
    (({ onStream [] with port := [.bitRead 0] } : State).port = .bitRead 0 :: [] ∧
      ({ onStream [] with port := [.bitPeek 33] } : State).port = .bitPeek 33 :: []) ∧
    (({ onStream (code 31 0) with port := [.bitReadS 32] } : State).port = .bitReadS 32 :: [] ∧
      ({ onStream (code 31 0) with port := [.bitReadS 32] } : State).remaining < 32) ∧
    (1 ≤ ({ onStream [true] with port := [.bitReadS 1] } : State).remaining ∧ 1 < 2 ^ 1 ∧
      ({ onStream [true] with port := [.bitReadS 1] } : State).unread.take 1 = code 1 1) ∧
    (32 ≤ ({ onStream (code 32 0xFFFFFFFF) with port := [.bitRead 32] } : State).remaining ∧ 0xFFFFFFFF < 2 ^ 32 ∧
      ({ onStream (code 32 0xFFFFFFFF) with port := [.bitRead 32] } : State).unread.take 32 = code 32 0xFFFFFFFF) := by
  decide

/-- `HostAlignmentQueryReadsTheCursor`. -/
theorem witness_alignment : ({ failed with port := [.isByteAligned] } : State).port = .isByteAligned :: [] := rfl

/-- `MotionResidualFieldsAreReadByTheHost`: the shortest and the longest field, stream exactly long enough and one bit
short. -/
theorem witness_residuals :
    (residualField 1 0 = some (.mvResidualRSize1 0) ∧ 0 < 2 ^ 1 ∧ 1 ≤ (onStream [false]).remaining) ∧
      (residualField 6 63 = some (.mvResidualRSize6 63) ∧ 63 < 2 ^ 6 ∧ 6 ≤ (onStream (code 6 63)).remaining) ∧
      (onStream (code 5 0)).remaining < 6 ∧
      (({ onStream (code 6 63) with port := [.bitRead 6] } : State).port = .bitRead 6 :: [] ∧
        ({ onStream (code 6 63) with port := [.bitRead 6] } : State).unread.take 6 = code 6 63) := by decide

/-- `DecodeInvertsEncode`: both clauses. -/
theorem witness_round_trip :
    (Instr.tAcEscapeShort 63 0x81).wellFormed = true ∧
      ((Instr.tAcRun31Level1 true).wellFormed = true ∧ (Instr.tAcRun31Level1 true).ctx = .vlc .acn ∧
        Instr.tAcRun31Level1 true ≠ .tAcnEndOfBlock ∧ ∀ b, Instr.tAcRun31Level1 true ≠ .tAcnRun0Level1Next b) := by
  decide

/-- `EncodeInvertsVlcDecode`. -/
theorem witness_decode : decode (.vlc .acn) (code 28 0b0000010000001000000000000001) = .ok (.tAcEscapeLongNeg 0 1) [] := by
  decide

/-- `UnusedWindowsAreExactlyTheListed`: an unused and a used window. -/
theorem witness_windows :
    (code 11 0b00000001001).length = Table.mba.width ∧ (code 11 0b00000001000).length = Table.mba.width := by decide

/-- `UnassignedCommandBitsAreIgnored`: all unassigned bits differ. -/
theorem witness_unassigned_bits :
    opcodeOf 0x02FFFFFA = opcodeOf 0x02000002 ∧ (0x02FFFFFA : Word) &&& 0xFF000007 = 0x02000002 &&& 0xFF000007 ∧
      opcodeOf 0x20C50800 = opcodeOf 0x20050800 ∧ (0x20C50800 : Word) &&& 0xFF3FFFFF = 0x20050800 &&& 0xFF3FFFFF := by
  decide

/-- `BitPeekIsBigEndianAndStrict`: exactly enough bits, and one too few. -/
theorem witness_peek : (onStream (code 31 0)).remaining < 32 ∧ 32 ≤ (onStream (code 32 5)).remaining := by decide

/-- `MacroblockCodewordsDeliverTheirValues`: each window exactly there. -/
theorem witness_macroblock_codewords :
    (onStream (code 11 0)).err = false ∧ 11 ≤ (onStream (code 11 0)).remaining ∧
      (∀ r ∈ macroblockTypes, r.1.width ≤ (onStream (code 6 0)).remaining) ∧ 9 ≤ (onStream (code 9 0)).remaining := by
  decide

/-- `BlockCodewordsDeliverTheirValues`. -/
theorem witness_block_codewords :
    (onStream (code 17 0)).err = false ∧ (∀ r ∈ dcSizes, r.1.width ≤ (onStream (code 8 0)).remaining) ∧
      17 ≤ (onStream (code 17 0)).remaining := by decide

/-- `EscapeCodewordsDeliverRunAndLevel`. -/
theorem witness_escape_codewords :
    (onStream (code 28 0)).err = false ∧ 20 ≤ (onStream (code 20 0)).remaining ∧ (0x81 : BitVec 8) ≠ 0x00 ∧
      (0x81 : BitVec 8) ≠ 0x80 ∧ 28 ≤ (onStream (code 28 0)).remaining := by decide

/-! `TableCommandsDecodeTheCodeTheyFind`: one row of each clause with the window exactly there. -/

theorem witness_table_types :
    (onStream (code 6 0b000001)).err = false ∧
      (Table.mbtP, Instr.tMbtPQ1f0b0p0i1, code 6 0b000001, ⟨true, false, false, false, true⟩) ∈ macroblockTypes ∧
      (Instr.vldMbtP, (0x02 : BitVec 8), Table.mbtP, 6) ∈ tableCommands ∧
      (onStream (code 6 0b000001)).unread = code 6 0b000001 ++ [] ∧ 6 ≤ (onStream (code 6 0b000001)).remaining := by
  decide

theorem witness_table_motion :
    (onStream (code 11 0b00000011001)).err = false ∧ (Instr.tMvCodeM16, code 11 0b00000011001, -16) ∈ motionCodes ∧
      (onStream (code 11 0b00000011001)).unread = code 11 0b00000011001 ++ [] ∧
      11 ≤ (onStream (code 11 0b00000011001)).remaining := by decide

theorem witness_table_pattern :
    (onStream (code 9 0b000000011)).err = false ∧ (Instr.tCbpCbp27, code 9 0b000000011, 27) ∈ blockPatterns ∧
      (onStream (code 9 0b000000011)).unread = code 9 0b000000011 ++ [] ∧
      9 ≤ (onStream (code 9 0b000000011)).remaining := by decide

theorem witness_table_dcSize :
    (onStream (code 8 0b11111110)).err = false ∧ (Table.dcc, Instr.tDccSize8, code 8 0b11111110, 8) ∈ dcSizes ∧
      (Instr.vldDcc, (0x06 : BitVec 8), Table.dcc, 8) ∈ tableCommands ∧
      (onStream (code 8 0b11111110)).unread = code 8 0b11111110 ++ [] ∧
      8 ≤ (onStream (code 8 0b11111110)).remaining := by decide

/-- `MbaSumsEscapesAndTheIncrement`: stuffing, escape and the longest increment, nothing after it. -/
theorem witness_mba :
    (onStream (code 33 0b000000011110000000100000000011000)).err = false ∧
      (Instr.tMbaIncr33, code 11 0b00000011000, 33) ∈ mbaIncrements ∧
      (onStream (code 33 0b000000011110000000100000000011000)).unread =
        [false, true].flatMap mbaSkip ++ (code 11 0b00000011000 ++ []) ∧
      11 ≤ (code 11 0b00000011000 ++ ([] : Bits)).length := by decide

/-- `MbaKeepsWhatItSkippedWhenItFails`: 10 bits after a stuffing code; an unused window of exactly 11. -/
theorem witness_mba_failing :
    ((onStream (code 21 0b000000011111000000000)).unread = [false].flatMap mbaSkip ++ code 10 0b1000000000 ∧
      (code 10 0b1000000000).length < 11) ∧
    ((onStream (code 22 0b0000000111100000001001)).unread = [false].flatMap mbaSkip ++ code 11 0b00000001001 ∧
      11 ≤ (code 11 0b00000001001).length ∧
      (unusedPrefixes .mba).any (fun p => p.isPrefixOf (code 11 0b00000001001)) = true) := by decide

/-- `DcDifferentialIsSignExtendedFromItsTopBit`: sizes 0, 1, 8, 9, and one bit too few. -/
theorem witness_dcd :
    ((onStream []).err = false ∧ 0 < 2 ^ (0 : BitVec 4).toNat) ∧
    (1 ≤ (1 : BitVec 4).toNat ∧ 1 < 2 ^ (1 : BitVec 4).toNat ∧ (onStream [true]).unread = code 1 1 ++ []) ∧
    ((8 : BitVec 4).toNat ≤ 8 ∧ 127 < 2 ^ (8 : BitVec 4).toNat ∧ (onStream (code 8 127)).unread = code 8 127 ++ []) ∧
    (8 < (9 : BitVec 4).toNat ∧ 0 < 2 ^ (9 : BitVec 4).toNat) ∧
    (onStream (code 7 0)).remaining < (8 : BitVec 4).toNat := by decide

/-- `DcDifferentialFieldsDeliverTheirValues`: exactly as many bits as the field takes. -/
theorem witness_dc_fields :
    (onStream []).err = false ∧ 1 ≤ (onStream (code 1 0)).remaining ∧ 2 ≤ (onStream (code 2 0)).remaining ∧
      3 ≤ (onStream (code 3 0)).remaining ∧ 4 ≤ (onStream (code 4 0)).remaining ∧ 5 ≤ (onStream (code 5 0)).remaining ∧
      6 ≤ (onStream (code 6 0)).remaining ∧ 7 ≤ (onStream (code 7 0)).remaining ∧ 8 ≤ (onStream (code 8 0)).remaining := by
  decide

/-- `AcCommandsDecodeRunAndLevel`: each clause with exactly 17 bits. -/
theorem witness_ac :
    (onStream (code 17 0b00000000000110111)).err = false ∧ 17 ≤ (onStream (code 17 0b00000000000110111)).remaining ∧
    (Instr.tAcRun31Level1, code 16 0b0000000000011011, 31, 1) ∈ runLevels ∧
    (onStream (code 17 0b00000000000110111)).unread = code 16 0b0000000000011011 ++ true :: [] ∧
    (onStream (code 17 0b11000000000000000)).unread = true :: true :: code 15 0 ∧
    (onStream (code 17 0b10000000000000000)).unread = true :: false :: code 15 0 ∧
    (onStream (code 17 0b11100000000000000)).unread = true :: true :: true :: code 14 0 := by decide

/-- `AcCommandsDecodeEscapes`: each form with nothing after it. -/
theorem witness_escapes :
    (onStream []).err = false ∧ (Instr.vldAcf, (0x08 : BitVec 8)) ∈ [(Instr.vldAcf, 0x08#8), (Instr.vldAcn, 0x09#8)] ∧
    ((0xFF : BitVec 8) ≠ 0x00 ∧ (0xFF : BitVec 8) ≠ 0x80 ∧
      (onStream (code 20 0b00000111111111111111)).unread =
        code 6 0b000001 ++ code 6 (63 : BitVec 6).toNat ++ code 8 (0xFF : BitVec 8).toNat ++ []) ∧
    (onStream (code 28 0b0000010000110000000010000001)).unread =
      code 6 0b000001 ++ code 6 (3 : BitVec 6).toNat ++ code 8 0x00 ++ code 8 (0x81 : BitVec 8).toNat ++ [] ∧
    (onStream (code 28 0b0000010000001000000000000001)).unread =
      code 6 0b000001 ++ code 6 (0 : BitVec 6).toNat ++ code 8 0x80 ++ code 8 (0x01 : BitVec 8).toNat ++ [] := by decide

/-- `TruncatedEscapeKeepsTheFieldsItRead`: VC22 at 5 and at 7 bits, VC23 at 7 bits. -/
theorem witness_truncated :
    ((onStream (code 17 0b00000100001000000)).unread =
        code 6 0b000001 ++ code 6 (2 : BitVec 6).toNat ++ code 5 0 ∧ 5 ≤ (code 5 0).length ∧ (code 5 0).length < 8) ∧
    ((onStream (code 19 0b0000010000100000000)).unread =
        code 6 0b000001 ++ code 6 (2 : BitVec 6).toNat ++ code 7 0 ∧ 5 ≤ (code 7 0).length ∧ (code 7 0).length < 8) ∧
    ((onStream (code 27 0b000001000010100000000000000)).unread =
        code 6 0b000001 ++ code 6 (2 : BitVec 6).toNat ++ code 8 (0x80 : BitVec 8).toNat ++ code 7 0 ∧
      (code 7 0).length < 8) := by decide

/-- `ShortWindowRaisesEndOfStream`: one bit too few for each table's command. -/
theorem witness_short_window :
    (onStream []).err = false ∧ ∀ c ∈ tableCommands, (onStream (code (c.2.2.2 - 1) 0)).remaining < c.2.2.2 := by decide

/-- `UnusedWindowRaisesInvalidVlcCode`: a window of each table's exact width (all ones for the DC sizes). -/
theorem witness_unused_window :
    ∀ c ∈ tableCommands, ∃ b : Bool,
      (onStream (List.replicate c.2.2.2 b)).err = false ∧ c.2.2.2 ≤ (onStream (List.replicate c.2.2.2 b)).remaining ∧
      (unusedPrefixes c.2.2.1).any (fun p => p.isPrefixOf (onStream (List.replicate c.2.2.2 b)).unread) = true := by
  decide

/-- `VldLeavesMvrAndBufferAlone`, `VldReadsNoMvrAndNoBuffer`: a command, a codeword and a field that complete. -/
theorem witness_vld :
    (isVld .vldMba = true ∧ ∃ t, exec .vldMba (onStream (code 11 0b10000000000)) = .next t) ∧
      (isVld .tCbpCbp27 = true ∧ ∃ t, exec .tCbpCbp27 (onStream (code 9 0b000000011)) = .next t) ∧
      (isVld (.dcDiffSize1 1) = true ∧ ∃ t, exec (.dcDiffSize1 1) (onStream [true]) = .next t) :=
  ⟨⟨rfl, _, rfl⟩, ⟨rfl, _, rfl⟩, ⟨rfl, _, rfl⟩⟩

/-- `MvrSetupLoadsTheScale`, `ZeroFCodeRaisesInvalidFCode`, `MvrResetZeroesTheAccumulators`: the f-codes 1 and 7. -/
theorem witness_setup : State.reset.err = false ∧ (1 : BitVec 3) ≠ 0 ∧ (7 : BitVec 3) ≠ 0 := by decide

/-- `MvAxisWrapsIntoTheRange`: the smallest and the largest scale, both ends of every range. -/
theorem witness_mvAxis :
    (0 ≤ 6 ∧ (-16 : Int) ≤ 16 ∧ (16 : Int) ≤ 16 ∧ -(16 * 2 ^ 0) ≤ (15 : Int) ∧ (15 : Int) ≤ 16 * 2 ^ 0 - 1) ∧
      (6 ≤ 6 ∧ (-16 : Int) ≤ -16 ∧ (-16 : Int) ≤ 16 ∧ -(16 * 2 ^ 6) ≤ (-1024 : Int) ∧ (-1024 : Int) ≤ 16 * 2 ^ 6 - 1 ∧
        63 < 2 ^ 6) := by decide

/-- A direction as `MVR.SETUP` with f-code 7 leaves it, with the predictors at both ends of their range. -/
theorem wf_setUp : (setUp 64 6 true (-1024) 1023).Wf := ⟨by decide, by decide, by decide, by decide, by decide⟩

/-- `MvrCalcReconstructsTheVector`: in each direction the codes -16 and 16, the residuals 0 and 63. -/
theorem witness_calc :
    let s : State := { State.reset with mvrF := setUp 64 6 true (-1024) 1023, mvrB := setUp 64 6 true (-1024) 1023 }
    s.err = false ∧ (∀ d, (s.mvr d).Wf ∧ (s.mvr d).valid = true ∧ (63 : BitVec 6).toNat < (s.mvr d).f.toNat) ∧
      -16 ≤ (48 : BitVec 6).toInt ∧ (48 : BitVec 6).toInt ≤ 16 ∧ -16 ≤ (16 : BitVec 6).toInt ∧
      (16 : BitVec 6).toInt ≤ 16 :=
  ⟨rfl, fun d => by cases d <;> exact ⟨wf_setUp, rfl, by decide⟩, by decide, by decide, by decide, by decide⟩

/-- `MvrCalcMisuseRaisesProtocolError`: each ground alone. -/
theorem witness_calc_misuse :
    State.reset.err = false ∧ (State.reset.mvr .F).valid = false ∧ (47 : BitVec 6).toInt < -16 ∧
      16 < (17 : BitVec 6).toInt ∧
      ((setUp 4 2 false 0 0).f ≠ 1 ∧ (1 : BitVec 6) ≠ 0 ∧ (setUp 4 2 false 0 0).f.toNat ≤ (4 : BitVec 6).toNat) := by
  decide

/-- `DisplacementFieldsRecombine`: both ends of the range, and an odd negative displacement. -/
theorem witness_displacement :
    ((-1024 : Int) ≤ -1024 ∧ (-1024 : Int) ≤ 1023) ∧ ((-1024 : Int) ≤ 1023 ∧ (1023 : Int) ≤ 1023) ∧
      ((outputs false (-3)).l < 0 ∧ (outputs false (-3)).l % 2 = 1) := by decide

/-- `MvrDirectionsAreIndependent`. -/
theorem witness_directions :
    (isMvr .F .mvrResetF = true ∧ ∃ t, exec .mvrResetF State.reset = .next t) ∧
      (isMvr .B (.mvrSetupB true 7) = true ∧ ∃ t, exec (.mvrSetupB true 7) State.reset = .next t) :=
  ⟨⟨rfl, _, rfl⟩, ⟨rfl, _, rfl⟩⟩

/-- `CbWrStoresOneEntry`, `CbRdReturnsTheEntry`: the last entry, written and not. -/
theorem witness_cb :
    State.reset.err = false ∧ ({ State.reset with cb := [(63, 0x8000)] } : State).cb.read (63 : BitVec 6).toNat = some 0x8000 ∧
      ({ State.reset with cb := [(63, 0x8000)] } : State).cb.wf = true ∧
      State.reset.cb.read (63 : BitVec 6).toNat = none := by decide

/-- `IdctBlkTransformsTheBuffer`: entries at both ends of the range. -/
theorem witness_idctBlk :
    let s : State := { State.reset with cb := coefficients fun i => if i % 2 = 0 then -2048 else 2047 }
    let c : Fin 8 → Fin 8 → BitVec 16 := fun y x => if (8 * y.val + x.val) % 2 = 0 then -2048 else 2047
    s.err = false ∧
      ∀ y x : Fin 8, s.cb.read (8 * y + x) = some (c y x) ∧ -2048 ≤ (c y x).toInt ∧ (c y x).toInt ≤ 2047 :=
  ⟨rfl, by decide +kernel⟩

/-- `IdctBlkRejectsBadBlocks`: one entry 2048 or -2049 among written ones; the last entry never written. -/
theorem witness_bad_blocks :
    (∀ i, i < 64 → (coefficients fun i => if i = 5 then 2048 else 0).read i ≠ none) ∧
    (5 < 64 ∧ (coefficients fun i => if i = 5 then 2048 else 0).read 5 = some 2048 ∧ 2047 < (2048 : BitVec 16).toInt) ∧
    (63 < 64 ∧ (coefficients fun i => if i = 63 then -2049 else 0).read 63 = some (-2049) ∧
      (-2049 : BitVec 16).toInt < -2048) ∧
    (63 < 64 ∧ Memory.read ((coefficients fun _ => 0).take 63) 63 = none ∧
      ∀ j, j < 63 → Memory.read ((coefficients fun _ => 0).take 63) j ≠ none) := by decide +kernel

/-- `RndShiftRoundsToNearestTiesAway`: the smallest shift, and a tie. -/
theorem witness_rndShift :
    1 ≤ 1 ∧ 2 * |(-3 : Int) - rndShift (-3) 1 * 2 ^ 1| = 2 ^ 1 := by decide

/-- `IdctIsOddSymmetric`: a kernel that is linear before rounding and is not the spec's. -/
theorem witness_kernel : Config.Kernel.Admissible { network := fun v => v } := fun _ _ => rfl

/-- `IdctOutputsAreBounded`: the largest inputs of the column pass. -/
theorem witness_column_inputs :
    ∀ k : Fin 8, |(⟨122424, -122424, 0, 122424, 0, 0, -122424, 122424⟩ : Vec8 Int).get k| ≤ 122424 := by decide

/-- `IdctOutputsAreBounded`: the block that attains the bound. -/
theorem witness_bounds :
    let row : Vec8 Int := ⟨-2048, -2048, -2048, -2048, -2048, -2048, -2048, -2048⟩
    let b : Block := ⟨row, row, row, row, row, row, row, ⟨2047, 2047, 2047, 2047, 2047, 2047, 2047, 2047⟩⟩
    ∀ y x : Fin 8, -2048 ≤ (b.get y).get x ∧ (b.get y).get x ≤ 2047 := by decide

/-- `IdctUnitLeavesCursorAndMvrAlone`. -/
theorem witness_idct :
    (isIdct (.cbWr 63 1) = true ∧ ∃ t, exec (.cbWr 63 1) State.reset = .next t) ∧
      (isIdct (.cbRd 0) = true ∧ (∃ t, exec (.cbRd 0) { State.reset with cb := [(0, 1)] } = .next t) ∧
        ∃ idx, Instr.cbRd 0 = .cbRd idx) :=
  ⟨⟨rfl, _, rfl⟩, ⟨rfl, ⟨_, rfl⟩, _, rfl⟩⟩

/-- `NopDoesNothing`: each clause. -/
theorem witness_nop : (0x00FFFFFF : Word).extractLsb' 24 8 = 0x00#8 ∧ State.reset.err = false ∧ failed.err = true := by
  decide

/-- `ErrorStateRefusesEverythingButStatus`: a command, a codeword and a DC field. -/
theorem witness_error_state :
    failed.err = true ∧
      (Instr.idctBlk ≠ .status ∧ ∀ n, Instr.idctBlk.ctx ≠ .residual n) ∧
      (Instr.tMbaStuffing ≠ .status ∧ ∀ n, Instr.tMbaStuffing.ctx ≠ .residual n) ∧
      (Instr.dcDiffSize8 0 ≠ .status ∧ ∀ n, (Instr.dcDiffSize8 0).ctx ≠ .residual n) :=
  ⟨rfl, ⟨by decide, fun _ h => nomatch h⟩, ⟨by decide, fun _ h => nomatch h⟩, ⟨by decide, fun _ h => nomatch h⟩⟩

/-- `FirstErrorIsRecordedPrecisely`: an error of the VLD (P3, step 3) and one of the MVR (VR8). -/
theorem witness_first_error :
    (Instr.vldMba.ctx = .command ∧ (onStream (code 22 0b0000000111100000001001)).err = false ∧
      ∃ t, exec .vldMba (onStream (code 22 0b0000000111100000001001)) = .next t ∧ t.err = true) ∧
    ((Instr.mvrCalcF 1 0 1 0).ctx = .command ∧ State.reset.err = false ∧ isVld (.mvrCalcF 1 0 1 0) = false ∧
      ∃ t, exec (.mvrCalcF 1 0 1 0) State.reset = .next t ∧ t.err = true) :=
  ⟨⟨rfl, rfl, _, rfl, rfl⟩, ⟨rfl, rfl, rfl, _, rfl, rfl⟩⟩

/-- `OnlyResetLeavesTheErrorState`: a refused command, and a host's read. -/
theorem witness_error_kept :
    failed.err = true ∧
      ((∃ t, step (given 0x20000005 failed) = .next t) ∧ (∀ rest, (given 0x20000005 failed).port ≠ .reset :: rest) ∧
        ∀ w rest, (given 0x20000005 failed).port ≠ .resetDuring w :: rest) ∧
      ∃ t, step { failed with port := [.bitRead 8] } = .next t :=
  ⟨rfl, ⟨⟨_, rfl⟩, (fun _ h => nomatch h), (fun _ _ h => nomatch h)⟩, ⟨_, rfl⟩⟩

/-- `EveryCommandGivesOneResponse`. -/
theorem witness_response : Instr.nop.ctx = .command ∧ ∃ t, exec .nop State.reset = .next t := ⟨rfl, _, rfl⟩

/-- A state in use: a cursor inside the stream, both directions set up, coefficients written, an error recorded. -/
def busy : State :=
  { failed with
    mvrF := setUp 64 6 true (-1024) 1023, mvrB := setUp 1 0 false 15 (-16), cb := [(0, 5), (63, 0xF800)]
    port := [.command 0x09000000, .reset] }

/-- The same after a reset, on a stream with an end of block at the cursor. -/
def ready : State := { resetEvent busy with bs := code 11 0 ++ code 17 0b10000000000000000 }

theorem busy_inv : busy.Inv :=
  ⟨by decide, by decide, wf_setUp, ⟨by decide, by decide, by decide, by decide, by decide⟩, ⟨by decide, by decide, by decide⟩⟩

theorem ready_inv : ready.Inv :=
  ⟨by decide, by decide, ⟨by decide, by decide, by decide, by decide, by decide⟩, ⟨by decide, by decide, by decide, by decide, by decide⟩,
    ⟨by decide, by decide, by decide⟩⟩

/-- `EveryStepKeepsTheInvariant`, `EveryInstructionKeepsTheInvariant`, `CursorNeverMovesBack`: in the error state and outside
it. -/
theorem witness_invariant :
    (busy.Inv ∧ ∃ t, step busy = .next t) ∧ (ready.Inv ∧ (∃ t, step ready = .next t) ∧ ∃ t, exec .vldAcn ready = .next t) :=
  ⟨⟨busy_inv, _, rfl⟩, ⟨ready_inv, ⟨_, rfl⟩, _, rfl⟩⟩

/-- `ResetSatisfiesTheInvariant`. -/
theorem witness_reset_inv : busy.pos ≤ busy.bs.length := by decide

end Sys2Proof.Tests
end

/-! ## Rounding: `rnd_shift` (00_scope.md R14)

Division with remainder bounds the rounding error of a number that is not negative; odd symmetry carries the bound to the
negative ones. -/

namespace Sys2Proof.Rounding

open Sys2Proof.Machine Sys2Proof.SpecTables

/-- The model takes the magnitude over the naturals, the spec over the integers. -/
theorem rndShift_eq_nearestAway (v : Int) (s : Nat) : rndShift v s = nearestAway v s := by
  simp [rndShift, nearestAway]

theorem rndShift_neg (v : Int) (s : Nat) : rndShift (-v) s = -rndShift v s := by
  simp [rndShift]

/-- Half a unit twice is a unit; this is where R14 needs `s >= 1`. -/
theorem two_mul_half_unit {s : Nat} (hs : 1 ≤ s) : 2 * 2 ^ (s - 1) = (2 ^ s : Int) := by
  rw [← pow_succ', Nat.sub_add_cancel hs]

theorem rndShift_of_nonneg {v : Int} {s : Nat} (hs : 1 ≤ s) (hv : 0 ≤ v) :
    rndShift v s = (v + 2 ^ (s - 1)) / 2 ^ s := by
  rw [rndShift_eq_nearestAway, nearestAway, abs_of_nonneg hv]
  obtain rfl | hpos := hv.eq_or_lt
  · have half_lt : (2 ^ (s - 1) : Int) < 2 ^ s := pow_lt_pow_right₀ one_lt_two (Nat.sub_lt hs one_pos)
    simp [Int.ediv_eq_zero_of_lt (by positivity) half_lt]
  · rw [Int.sign_eq_one_of_pos hpos, one_mul]

/-- What rounding adds to a number that is not negative lies in `(-2^(s-1), 2^(s-1)]`: only the upper end, a tie rounded up, is
reached. -/
theorem rndShift_error_of_nonneg {v : Int} {s : Nat} (hs : 1 ≤ s) (hv : 0 ≤ v) :
    -2 ^ s < 2 * (rndShift v s * 2 ^ s - v) ∧ 2 * (rndShift v s * 2 ^ s - v) ≤ 2 ^ s := by
  have unit_pos : (0 : Int) < 2 ^ s := by positivity
  have half := two_mul_half_unit hs
  have division := Int.ediv_mul_add_emod (v + 2 ^ (s - 1)) (2 ^ s)
  have rem_nonneg := Int.emod_nonneg (v + 2 ^ (s - 1)) unit_pos.ne'
  have rem_lt := Int.emod_lt_of_pos (v + 2 ^ (s - 1)) unit_pos
  rw [← rndShift_of_nonneg hs hv] at division
  constructor <;> linarith

/-- The integer `r` lies within half a unit of `v / 2^s`, and at a tie is the larger in magnitude. -/
def IsNearestTiesAway (r v : Int) (s : Nat) : Prop :=
  2 * |v - r * 2 ^ s| ≤ 2 ^ s ∧ (2 * |v - r * 2 ^ s| = 2 ^ s → |v| < |r * 2 ^ s|)

theorem isNearestTiesAway_neg {r v : Int} {s : Nat} : IsNearestTiesAway (-r) (-v) s ↔ IsNearestTiesAway r v s := by
  have same_distance : |-v - -(r * 2 ^ s)| = |v - r * 2 ^ s| := by rw [← neg_sub', abs_neg]
  simp only [IsNearestTiesAway, neg_mul, same_distance, abs_neg]

/-- An error in `(-2^(s-1), 2^(s-1)]` makes a tie one that was rounded up. -/
theorem isNearestTiesAway_of_error {r v : Int} {s : Nat} (hv : 0 ≤ v)
    (above : -2 ^ s < 2 * (r * 2 ^ s - v)) (below : 2 * (r * 2 ^ s - v) ≤ 2 ^ s) : IsNearestTiesAway r v s := by
  have at_most_half : 2 * |v - r * 2 ^ s| ≤ 2 ^ s := by grind
  refine ⟨at_most_half, fun tie => ?_⟩
  have rounded_up : v < r * 2 ^ s := by grind
  rwa [abs_of_nonneg hv, abs_of_pos (hv.trans_lt rounded_up)]

theorem rndShift_isNearestTiesAway {s : Nat} (hs : 1 ≤ s) (v : Int) : IsNearestTiesAway (rndShift v s) v s := by
  have of_nonneg {u : Int} (hu : 0 ≤ u) : IsNearestTiesAway (rndShift u s) u s :=
    have ⟨above, below⟩ := rndShift_error_of_nonneg hs hu
    isNearestTiesAway_of_error hu above below
  obtain hv | hv := le_total 0 v
  · exact of_nonneg hv
  · have mirrored := of_nonneg (neg_nonneg.mpr hv)
    rwa [rndShift_neg, isNearestTiesAway_neg] at mirrored

/-- Settles O45, by division with remainder where `v` is not negative and by odd symmetry where it is. -/
theorem rndShiftRoundsToNearestTiesAway : Obligations.RndShiftRoundsToNearestTiesAway := by
  intro v s hs
  obtain ⟨nearest, tie_away⟩ := rndShift_isNearestTiesAway hs v
  exact ⟨rndShift_eq_nearestAway v s, nearest, tie_away, rndShift_neg v s⟩

end Sys2Proof.Rounding

/-! ## The two directions of the MVR are independent (10_state.md R29)

A command of one direction answers with an update of the state, and ERR and its own registers alone choose that update. Each update
it can choose commutes with replacing the other direction's registers: so it writes none of them and reads none of them. -/

namespace Sys2Proof.Directions

open Sys2Proof.Machine

/-- The other direction (10_state.md R29). -/
def opposite : Dir → Dir
  | .F => .B
  | .B => .F

theorem opposite_ne (d : Dir) : opposite d ≠ d := by cases d <;> decide

/-! ### Replacing one direction's registers -/

theorem setMvr_mvr_self (s : State) (d : Dir) : s.setMvr d (s.mvr d) = s := by cases d <;> rfl

@[simp] theorem setMvr_opposite_mvr (s : State) (d : Dir) (m : Mvr) : (s.setMvr (opposite d) m).mvr d = s.mvr d :=
  setMvr_mvr_other s (opposite d) d m (opposite_ne d)

theorem setMvr_opposite_comm (s : State) (d : Dir) (m n : Mvr) :
    (s.setMvr (opposite d) n).setMvr d m = (s.setMvr d m).setMvr (opposite d) n := by
  cases d <;> rfl

theorem respond_setMvr (r : Response) (s : State) (d : Dir) (m : Mvr) :
    respond r (s.setMvr d m) = (respond r s).setMvr d m := by
  cases d <;> rfl

theorem refuse_setMvr (s : State) (d : Dir) (m : Mvr) : refuse (s.setMvr d m) = (refuse s).setMvr d m := by
  cases d <;> rfl

theorem beginCommand_setMvr (op : BitVec 8) (s : State) (d : Dir) (m : Mvr) :
    beginCommand op (s.setMvr d m) = (beginCommand op s).setMvr d m := by
  cases d <;> rfl

theorem recordError_setMvr (k : ErrorKind) (s : State) (d : Dir) (m : Mvr) :
    recordError k (s.setMvr d m) = (recordError k s).setMvr d m := by
  cases herr : s.err <;> cases d <;> simp [recordError, State.setMvr, herr]

theorem raise_setMvr (k : ErrorKind) (s : State) (d : Dir) (m : Mvr) :
    raise k (s.setMvr d m) = (raise k s).setMvr d m := by
  rw [raise, recordError_setMvr, respond_setMvr, raise]

@[simp] theorem beginCommand_mvr (op : BitVec 8) (s : State) (d : Dir) : (beginCommand op s).mvr d = s.mvr d := by
  cases d <;> rfl

/-! ### Updates within one direction -/

/-- The update `g` keeps to direction `d`: the registers of the other direction pass it by, and the cursor, the stream, the
coefficients and the port stay. -/
structure KeepsTo (d : Dir) (g : State → State) : Prop where
  commutes : ∀ s m, g (s.setMvr (opposite d) m) = (g s).setMvr (opposite d) m
  pos : ∀ s, (g s).pos = s.pos
  bs : ∀ s, (g s).bs = s.bs
  cb : ∀ s, (g s).cb = s.cb
  port : ∀ s, (g s).port = s.port

/-- What commutes with replacing the other direction's registers does not write them. -/
theorem KeepsTo.mvr_opposite {d : Dir} {g : State → State} (hg : KeepsTo d g) (s : State) :
    (g s).mvr (opposite d) = s.mvr (opposite d) := by
  have replaced := hg.commutes s (s.mvr (opposite d))
  rw [setMvr_mvr_self] at replaced
  rw [replaced, setMvr_mvr_same]

theorem KeepsTo.comp {d : Dir} {g h : State → State} (hg : KeepsTo d g) (hh : KeepsTo d h) :
    KeepsTo d fun s => g (h s) where
  commutes s m := by rw [hh.commutes, hg.commutes]
  pos s := by rw [hg.pos, hh.pos]
  bs s := by rw [hg.bs, hh.bs]
  cb s := by rw [hg.cb, hh.cb]
  port s := by rw [hg.port, hh.port]

theorem keepsTo_respond (d : Dir) (r : Response) : KeepsTo d (respond r) :=
  ⟨fun s m => respond_setMvr r s _ m, respond_pos r, respond_bs r, respond_cb r, respond_port r⟩

theorem keepsTo_refuse (d : Dir) : KeepsTo d refuse :=
  ⟨fun s m => refuse_setMvr s _ m, refuse_pos, refuse_bs, refuse_cb, refuse_port⟩

theorem keepsTo_beginCommand (d : Dir) (op : BitVec 8) : KeepsTo d (beginCommand op) :=
  ⟨fun s m => beginCommand_setMvr op s _ m, beginCommand_pos op, beginCommand_bs op, beginCommand_cb op, beginCommand_port op⟩

theorem keepsTo_raise (d : Dir) (k : ErrorKind) : KeepsTo d (raise k) :=
  ⟨fun s m => raise_setMvr k s _ m, raise_pos k, raise_bs k, raise_cb k, raise_port k⟩

theorem keepsTo_setMvr (d : Dir) (m : Mvr) : KeepsTo d (·.setMvr d m) :=
  ⟨fun s n => setMvr_opposite_comm s d m n, (setMvr_pos · d m), (setMvr_bs · d m), (setMvr_cb · d m), (setMvr_port · d m)⟩

theorem keepsTo_respond_setMvr (d : Dir) (r : Response) (m : Mvr) : KeepsTo d fun s => respond r (s.setMvr d m) :=
  (keepsTo_respond d r).comp (keepsTo_setMvr d m)

/-! ### Commands within one direction -/

/-- ERR and the registers of direction `d` choose the update `f` answers with, and it keeps to `d`. -/
def ActsWithin (d : Dir) (f : State → Outcome) : Prop :=
  ∀ (err : Bool) (own : Mvr), ∃ g, KeepsTo d g ∧ ∀ s : State, s.err = err → s.mvr d = own → f s = .next (g s)

theorem actsWithin_mvrSetup (d : Dir) (fullPel : Bool) (fCode : BitVec Config.fCodeW) :
    ActsWithin d (mvrSetup d fullPel fCode) := by
  intro _ _
  by_cases illegal : fCodeLegal fCode = false
  · exact ⟨_, keepsTo_raise d .invalidFCode, fun _ _ _ => if_pos illegal⟩
  · exact ⟨_, keepsTo_respond_setMvr d _ _, fun _ _ _ => if_neg illegal⟩

theorem actsWithin_mvrReset (d : Dir) : ActsWithin d (mvrReset d) := fun _ own =>
  ⟨_, keepsTo_respond_setMvr d .ok { own with prevH := 0, prevV := 0 }, fun s _ hown => by rw [mvrReset, hown]⟩

theorem actsWithin_mvrCalc (d : Dir) (codeH rH codeV rV : BitVec 6) : ActsWithin d (mvrCalc d codeH rH codeV rV) := by
  intro _ own
  have protocolError := keepsTo_raise d .protocolError
  by_cases invalid : own.valid = false
  · exact ⟨_, protocolError, fun s _ hown => by simp only [mvrCalc, hown, if_pos invalid]⟩
  by_cases illegal : codeLegal (codeOperand codeH) = false ∨ codeLegal (codeOperand codeV) = false
  · exact ⟨_, protocolError, fun s _ hown => by simp only [mvrCalc, hown, if_neg invalid, if_pos illegal]⟩
  cases horizontal : mvAxis own.f.toNat (codeOperand codeH) (residualOperand rH) own.prevH.toInt with
  | none =>
    exact ⟨_, protocolError, fun s _ hown => by simp only [mvrCalc, hown, if_neg invalid, if_neg illegal, horizontal]⟩
  | some nh =>
    cases vertical : mvAxis own.f.toNat (codeOperand codeV) (residualOperand rV) own.prevV.toInt with
    | none =>
      exact ⟨_, protocolError, fun s _ hown => by
        simp only [mvrCalc, hown, if_neg invalid, if_neg illegal, horizontal, vertical]⟩
    | some nv =>
      exact ⟨_, keepsTo_respond_setMvr d (.vector (outputs own.fullPel nh) (outputs own.fullPel nv))
        { own with prevH := .ofInt _ nh, prevV := .ofInt _ nv }, fun s _ hown => by
          simp only [mvrCalc, hown, if_neg invalid, if_neg illegal, horizontal, vertical]⟩

theorem actsWithin_command {d : Dir} {body : State → Outcome} (op : BitVec 8) (h : ActsWithin d body) :
    ActsWithin d (command op body) := by
  intro err own
  cases err with
  | true => exact ⟨_, keepsTo_refuse d, fun s herr _ => command_refused op body s herr⟩
  | false =>
    obtain ⟨g, hg, hbody⟩ := h false own
    refine ⟨_, hg.comp (keepsTo_beginCommand d op), fun s herr hown => ?_⟩
    calc command op body s
      _ = body (beginCommand op s) := command_running op body s herr
      _ = .next (g (beginCommand op s)) := hbody _ herr ((beginCommand_mvr op s d).trans hown)

/-- The six commands of 42_mvr.md R160, each the frame around its body. -/
theorem actsWithin_exec {d : Dir} {i : Instr} (h : isMvr d i = true) : ActsWithin d (exec i) :=
  match d, i, h with
  | .F, .mvrSetupF fullPel fCode, _ => actsWithin_command 0x10 (actsWithin_mvrSetup .F fullPel fCode)
  | .F, .mvrResetF, _ => actsWithin_command 0x12 (actsWithin_mvrReset .F)
  | .F, .mvrCalcF codeH rH codeV rV, _ => actsWithin_command 0x14 (actsWithin_mvrCalc .F codeH rH codeV rV)
  | .B, .mvrSetupB fullPel fCode, _ => actsWithin_command 0x11 (actsWithin_mvrSetup .B fullPel fCode)
  | .B, .mvrResetB, _ => actsWithin_command 0x13 (actsWithin_mvrReset .B)
  | .B, .mvrCalcB codeH rH codeV rV, _ => actsWithin_command 0x15 (actsWithin_mvrCalc .B codeH rH codeV rV)

/-- The frame of a command within `d`, and its non-interference with the other direction. -/
theorem ActsWithin.independent {d : Dir} {f : State → Outcome} (h : ActsWithin d f) {s t : State} (ht : f s = .next t)
    (m : Mvr) :
    t.mvr (opposite d) = s.mvr (opposite d) ∧ t.pos = s.pos ∧ t.bs = s.bs ∧ t.cb = s.cb ∧ t.port = s.port ∧
      f (s.setMvr (opposite d) m) = .next (t.setMvr (opposite d) m) := by
  obtain ⟨g, hg, hf⟩ := h s.err (s.mvr d)
  obtain rfl : g s = t := by
    rw [hf s rfl rfl] at ht
    exact Host.Outcome.next.inj ht
  refine ⟨hg.mvr_opposite s, hg.pos s, hg.bs s, hg.cb s, hg.port s, ?_⟩
  rw [hf _ (setMvr_err ..) (setMvr_opposite_mvr ..), hg.commutes]

/-- Settles O40: an MVR command acts within its own direction, and what acts within a direction is independent of the other. -/
theorem mvrDirectionsAreIndependent : Obligations.MvrDirectionsAreIndependent := by
  intro i s t m ht
  exact ⟨fun forward => (actsWithin_exec forward).independent ht m,
    fun backward => (actsWithin_exec backward).independent ht m⟩

end Sys2Proof.Directions

/-! ## The host's alignment query (20_memory.md R56)

Every stream fits the unbounded `POS_W` (`fits_posW`), so the query is always taken from the port; it is answered in the same
step, without a command. -/

namespace Sys2Proof.Alignment

open Sys2Proof.Machine

theorem isByteAligned_eq_decide (s : State) : isByteAligned s = decide (s.pos % 8 = 0) := beq_eq_decide _ _

theorem fetch_of_isByteAligned {s : State} {rest : List HostAction} (h : s.port = .isByteAligned :: rest) :
    fetch s = .done (.next (respond (.hostAligned (isByteAligned s)) { s with port := rest })) := by
  simp only [fetch, h, fits_posW, if_true]
  rfl

/-- Settles O7: the query is answered from the cursor alone, and only the port and the responses change. -/
theorem hostAlignmentQueryReadsTheCursor : Obligations.HostAlignmentQueryReadsTheCursor := by
  intro s rest h
  rw [step, fetch_of_isByteAligned h, isByteAligned_eq_decide]
  rfl

end Sys2Proof.Alignment

/-! ## Fields read from the stream: DC differentials and escapes (30_encoding.md R100, R101)

`VLD.DCD` and the escape body read fields one after another. A stream that goes on with the bits of a field gives up its value
(`bitRead_code`) and goes on with what follows it (`unread_bitSkip_code`), so each command is followed field by field. -/

namespace Sys2Proof.StreamFields

open Sys2Proof.Machine

/-! ### The cursor -/

theorem bitSkip_bitSkip (m n : Nat) (s : State) : bitSkip n (bitSkip m s) = bitSkip (m + n) s := by
  simp [bitSkip, Nat.add_assoc]

theorem unread_bitSkip_code {n v : Nat} {rest : Bits} {s : State} (h : s.unread = code n v ++ rest) :
    (bitSkip n s).unread = rest := by
  rw [unread_bitSkip, h, List.drop_left' (code_length n v)]

/-- `BitRead(n)` of a stream that is too short. -/
theorem bitRead_eq_none {n : Nat} {s : State} (h : s.remaining < n) : bitRead n s = none := by
  simp [bitRead, (bitPeek_eq_none n s).2 h]

/-! ### The DC differential (41_vld_block.md R142) -/

theorem testBit_top_iff {size raw : Nat} (hpos : 1 ≤ size) (hraw : raw < 2 ^ size) :
    raw.testBit (size - 1) = true ↔ 2 ^ (size - 1) ≤ raw :=
  ⟨Nat.ge_two_pow_of_testBit, fun hle =>
    Nat.testBit_of_two_pow_le_and_two_pow_add_one_gt hle (by rwa [Nat.sub_add_cancel hpos])⟩

/-- The model tests the top bit; on numbers of `size` bits that is a comparison. -/
theorem dcDiff_of_pos {size raw : Nat} (hpos : 1 ≤ size) (hraw : raw < 2 ^ size) :
    dcDiff size raw = if 2 ^ (size - 1) ≤ raw then (raw : Int) else (raw : Int) + 1 - 2 ^ size := by
  simp only [dcDiff, if_neg (Nat.one_le_iff_ne_zero.1 hpos), testBit_top_iff hpos hraw]

theorem dcdBody_zero (s : State) : dcdBody 0 s = .next (respond (.dcDiff 0) s) := rfl

theorem dcdBody_of_gt {size : Nat} (h : 8 < size) (s : State) : dcdBody size s = .next (raise .protocolError s) :=
  if_pos h

/-- A legal size that is not 0 reads the stream; the two outcomes are those of `BitRead`. -/
theorem dcdBody_of_bitRead_none {size : Nat} (hpos : 1 ≤ size) (hle : size ≤ 8) {s : State} (h : bitRead size s = none) :
    dcdBody size s = .next (raise .unexpectedEndOfStream s) := by
  simp [dcdBody, Nat.not_lt.2 hle, Nat.one_le_iff_ne_zero.1 hpos, h]

theorem dcdBody_of_bitRead_some {size : Nat} (hpos : 1 ≤ size) (hle : size ≤ 8) {s t : State} {raw : Nat}
    (h : bitRead size s = some (raw, t)) : dcdBody size s = .next (respond (.dcDiff (dcDiff size raw)) t) := by
  simp [dcdBody, Nat.not_lt.2 hle, Nat.one_le_iff_ne_zero.1 hpos, h]

/-- In a running block `VLD.DCD` is its body. -/
theorem exec_vldDcd {s : State} (running : s.err = false) (size : BitVec 4) :
    exec (.vldDcd size) s = dcdBody size.toNat (beginCommand 0x07 s) :=
  command_running 0x07 (dcdBody size.toNat) s running

/-- Settles O24: size 0, a size from 1 to 8 with its field in the stream, a size above 8, and a stream too short. -/
theorem dcDifferentialIsSignExtendedFromItsTopBit : Obligations.DcDifferentialIsSignExtendedFromItsTopBit := by
  intro s size raw rest running hraw
  have running_begun : (beginCommand 0x07 s).err = false := running
  rw [exec_vldDcd running]
  refine ⟨?size_zero, ?field_read, ?size_illegal, ?stream_short⟩
  case size_zero =>
    rintro rfl
    exact dcdBody_zero _
  case field_read =>
    intro hpos hle hunread
    have read := bitRead_code _ raw rest (beginCommand 0x07 s) hraw hunread
    rw [dcdBody_of_bitRead_some hpos hle read, dcDiff_of_pos hpos hraw]
    rfl
  case size_illegal =>
    intro hgt
    rw [dcdBody_of_gt hgt, raise_of_not_err _ _ running_begun]
    rfl
  case stream_short =>
    intro hpos hle hshort
    have no_read : bitRead size.toNat (beginCommand 0x07 s) = none := bitRead_eq_none hshort
    rw [dcdBody_of_bitRead_none hpos hle no_read, raise_of_not_err _ _ running_begun]
    rfl

/-! ### The escape (41_vld_block.md R145)

In both AC tables the escape code is looked at before the rows of `T_AC`, and the rows before it begin with a 1; so the look-up
stops at it whatever the rest of the window holds. -/

theorem lookup_escape {t : Table} (ht : t = .acf ∨ t = .acn) (window : Bits) :
    lookup t (code 6 0b000001 ++ window) = some (code 6 0b000001, .escape) := by
  obtain rfl | rfl := ht <;> rfl

/-- The window of 17 bits holds the escape code and 11 bits of what follows. -/
theorem vlcDecode_escapeCode {t : Table} (ht : t = .acf ∨ t = .acn) {s : State} {rest : Bits}
    (hunread : s.unread = code 6 0b000001 ++ rest) (hrest : 11 ≤ rest.length) :
    vlcDecode t s = .next (escapeBody (bitSkip 6 s)) := by
  have width_eq : t.width = (code 6 0b000001).length + 11 := by obtain rfl | rfl := ht <;> rfl
  have window_held : t.width ≤ s.remaining := by
    rw [width_eq, ← unread_length, hunread, List.length_append]
    omega
  rw [vlcDecode_window t s window_held, hunread, width_eq, List.take_length_add_append, lookup_escape ht]
  rfl

/-- The two AC commands with their opcodes. -/
def acCommands : List (Instr × BitVec 8) := [(.vldAcf, 0x08), (.vldAcn, 0x09)]

/-- In a running block whose stream begins with the escape code, both AC commands go on with the escape body. -/
theorem exec_acCommands_escape {c : Instr × BitVec 8} (hc : c ∈ acCommands) {s : State} (running : s.err = false) {rest : Bits}
    (hunread : s.unread = code 6 0b000001 ++ rest) (hrest : 11 ≤ rest.length) :
    exec c.1 s = .next (escapeBody (bitSkip 6 (beginCommand c.2 s))) := by
  have runs (op : BitVec 8) {t : Table} (ht : t = .acf ∨ t = .acn) :
      command op (vlcDecode t) s = .next (escapeBody (bitSkip 6 (beginCommand op s))) := by
    rw [command_running op _ s running, vlcDecode_escapeCode (s := beginCommand op s) ht hunread hrest]
  simp only [acCommands, List.mem_cons, List.not_mem_nil, or_false] at hc
  obtain rfl | rfl := hc
  · exact runs 0x08 (.inl rfl)
  · exact runs 0x09 (.inr rfl)

/-- The short form: the level byte announces no second one and is the level. -/
theorem escapeBody_short {s : State} {run : BitVec 6} {lv : BitVec 8} {rest : Bits} (notPos : lv ≠ 0x00) (notNeg : lv ≠ 0x80)
    (hunread : s.unread = code 6 run.toNat ++ (code 8 lv.toNat ++ rest)) :
    escapeBody s = respond (.ac false true run.toNat lv.toInt) (bitSkip 14 s) := by
  have read_run := bitRead_code _ _ _ _ run.isLt hunread
  have read_lv := bitRead_code _ _ _ _ lv.isLt (unread_bitSkip_code hunread)
  have notPos : lv.toNat ≠ 0x00 := fun h => notPos (BitVec.eq_of_toNat_eq h)
  have notNeg : lv.toNat ≠ 0x80 := fun h => notNeg (BitVec.eq_of_toNat_eq h)
  simp only [escapeBody, read_run, read_lv, if_neg notPos, if_neg notNeg, escapeFinish_pass, BitVec.ofNat_toNat,
    BitVec.setWidth_eq, escapeLevelShort, bitSkip_bitSkip]

/-- The two long forms: the level byte that announces the second one, and the level a second byte `m` then stands for. -/
def longForms : List (Nat × (BitVec 8 → Int)) := [(0x00, escapeLevelPos), (0x80, escapeLevelNeg)]

theorem escapeBody_long {form : Nat × (BitVec 8 → Int)} (hform : form ∈ longForms) {s : State} {run : BitVec 6} {m : BitVec 8}
    {rest : Bits} (hunread : s.unread = code 6 run.toNat ++ (code 8 form.1 ++ (code 8 m.toNat ++ rest))) :
    escapeBody s = respond (.ac false true run.toNat (form.2 m)) (bitSkip 22 s) := by
  have announcer_lt : form.1 < 2 ^ 8 := by revert form; simp [longForms]
  have after_run := unread_bitSkip_code hunread
  have read_run := bitRead_code _ _ _ _ run.isLt hunread
  have read_lv := bitRead_code _ _ _ _ announcer_lt after_run
  have read_m := bitRead_code _ _ _ _ m.isLt (unread_bitSkip_code after_run)
  have three_skips : bitSkip 8 (bitSkip 8 (bitSkip 6 s)) = bitSkip 22 s := by simp only [bitSkip_bitSkip]
  simp only [longForms, List.mem_cons, List.not_mem_nil, or_false] at hform
  obtain rfl | rfl := hform <;> simp [escapeBody, read_run, read_lv, read_m, escapeFinish_pass, three_skips]

/-- Settles O27: after the escape code the body reads the short form in 14 bits, a long one in 22. -/
theorem acCommandsDecodeEscapes : Obligations.AcCommandsDecodeEscapes := by
  intro s run m rest running c hc
  have exec_eq {fields : Bits} (hunread : s.unread = code 6 0b000001 ++ fields) (hfields : 11 ≤ fields.length) :=
    exec_acCommands_escape hc running hunread hfields
  have after_code {fields : Bits} (hunread : s.unread = code 6 0b000001 ++ fields) :
      (bitSkip 6 (beginCommand c.2 s)).unread = fields :=
    unread_bitSkip_code (s := beginCommand c.2 s) hunread
  have long {form : Nat × (BitVec 8 → Int)} (hform : form ∈ longForms)
      (hunread : s.unread = code 6 0b000001 ++ code 6 run.toNat ++ code 8 form.1 ++ code 8 m.toNat ++ rest) :
      exec c.1 s = .next (respond (.ac false true run.toNat (form.2 m)) (bitSkip 28 (beginCommand c.2 s))) := by
    simp only [List.append_assoc] at hunread
    rw [exec_eq hunread (by simp; omega), escapeBody_long hform (after_code hunread), bitSkip_bitSkip]
  refine ⟨?short, long (form := (0x00, escapeLevelPos)) (by simp [longForms]),
    long (form := (0x80, escapeLevelNeg)) (by simp [longForms])⟩
  intro notPos notNeg hunread
  simp only [List.append_assoc] at hunread
  rw [exec_eq hunread (by simp; omega), escapeBody_short notPos notNeg (after_code hunread), bitSkip_bitSkip]
  rfl

end Sys2Proof.StreamFields

/-! ## Zeroing the accumulators: `MVR.RESET.d` (42_mvr.md R163, R164) -/

namespace Sys2Proof.AccumulatorReset

open Sys2Proof.Machine

theorem decodeCommand_mvrResetF {w : Word} (h : opcodeOf w = 0x12) : decodeCommand w = .ok .mvrResetF := by
  simp [decodeCommand, h]

theorem decodeCommand_mvrResetB {w : Word} (h : opcodeOf w = 0x13) : decodeCommand w = .ok .mvrResetB := by
  simp [decodeCommand, h]

/-- In a running block the reset of a direction never looks at `VALID`. -/
theorem command_mvrReset_running (op : BitVec 8) (d : Dir) {s : State} (running : s.err = false) :
    command op (mvrReset d) s =
      .next (respond .ok ((beginCommand op s).setMvr d { s.mvr d with prevH := 0, prevV := 0 })) := by
  rw [command_running op _ s running, mvrReset, Directions.beginCommand_mvr]

/-- Settles O35: both commands are the one reset body in the frame of a command, each with its opcode and direction. -/
theorem mvrResetZeroesTheAccumulators : Obligations.MvrResetZeroesTheAccumulators := by
  refine ⟨fun w => ⟨decodeCommand_mvrResetF, decodeCommand_mvrResetB⟩, fun s stopped => ?refused, fun s running => ?zeroed⟩
  case refused => exact ⟨command_refused 0x12 _ s stopped, command_refused 0x13 _ s stopped⟩
  case zeroed => exact ⟨command_mvrReset_running 0x12 .F running, command_mvrReset_running 0x13 .B running⟩

end Sys2Proof.AccumulatorReset

/-! ## The displacement fields (42_mvr.md R169)

A value is split into its floor half and the bit that is dropped: `L` into `lfull` and `lhalf`, `C` into `cfull` and `chalf`. The two
settings of `CHROMA_HALVE` differ only in `C`, and there by the one that rounding a negative odd `L` toward zero adds. -/

namespace Sys2Proof.DisplacementFields

open Sys2Proof.Machine Sys2Proof.SpecTables

/-! ### Halving -/

/-- A value is twice its floor half and the bit dropped. -/
theorem two_mul_half_add_bit (v : Int) : v = 2 * (v / 2) + (if decide (v % 2 = 1) then 1 else 0) := by
  simp only [decide_eq_true_eq]; split <;> omega

/-- The model takes the magnitude over the naturals, the spec over the integers. -/
theorem chromaHalve_trunc (l : Int) : chromaHalve .trunc l = l.sign * (|l| / 2) := by
  simp [chromaHalve]

/-- Halving toward zero is floor halving, corrected where the floor lies strictly below a negative half. -/
theorem chromaHalve_trunc_eq_asr_add (l : Int) :
    chromaHalve .trunc l = chromaHalve .asr l + (if l < 0 ∧ l % 2 = 1 then 1 else 0) := by
  rw [chromaHalve_trunc, chromaHalve]
  obtain neg | rfl | pos := lt_trichotomy l 0
  · rw [Int.sign_eq_neg_one_of_neg neg, abs_of_neg neg]; split <;> omega
  · rfl
  · rw [Int.sign_eq_one_of_pos pos, abs_of_pos pos]; split <;> omega

theorem chromaHalve_trunc_eq_asr_iff (l : Int) :
    chromaHalve .trunc l = chromaHalve .asr l ↔ ¬(l < 0 ∧ l % 2 = 1) := by
  simp [chromaHalve_trunc_eq_asr_add]

theorem chromaHalve_trunc_of_negative_odd {l : Int} (h : l < 0 ∧ l % 2 = 1) :
    chromaHalve .trunc l = chromaHalve .asr l + 1 := by
  rw [chromaHalve_trunc_eq_asr_add, if_pos h]

/-! ### The fields of one axis -/

theorem outputs_eq_displacement (fullPel : Bool) (new : Int) : outputs fullPel new = displacement fullPel new := by
  rw [outputs_asr, outputsWith, mul_comm new 2]; rfl

/-- The setting of `CHROMA_HALVE` is used in the chroma halving only. -/
theorem outputsWith_congr {mode mode' : Config.ChromaHalve} {fullPel : Bool} {new : Int}
    (h : (outputsWith mode fullPel new).c = (outputsWith mode' fullPel new).c) :
    outputsWith mode fullPel new = outputsWith mode' fullPel new := by
  simp only [outputsWith] at h
  simp only [outputsWith, h]

/-- In full-pel mode a displacement is a whole number of pixels. -/
theorem outputs_fullPel_l_not_odd (new : Int) : (outputs true new).l % 2 ≠ 1 := by
  have even : (outputs true new).l % 2 = 0 := Int.mul_emod_left new 2
  rw [even]; decide

theorem outputs_fullPel_lhalf (new : Int) : (outputs true new).lhalf = false :=
  decide_eq_false (outputs_fullPel_l_not_odd new)

theorem outputsWith_trunc_fullPel (new : Int) : outputsWith .trunc true new = outputs true new :=
  outputsWith_congr <| (chromaHalve_trunc_eq_asr_iff _).mpr fun negative_odd =>
    outputs_fullPel_l_not_odd new negative_odd.2

/-- Doubling at most doubles the range of an accumulator, and the two halvings bring it down again. -/
theorem outputs_ranges (fullPel : Bool) {new : Int} (lo : -1024 ≤ new) (hi : new ≤ 1023) :
    let o := outputs fullPel new;
    -2048 ≤ o.l ∧ o.l ≤ 2046 ∧ -1024 ≤ o.lfull ∧ o.lfull ≤ 1023 ∧ -512 ≤ o.cfull ∧ o.cfull ≤ 511 := by
  rw [outputs_eq_displacement]
  cases fullPel <;> simp only [displacement, Bool.false_eq_true, if_false, if_true] <;> omega

/-- Settles O39: the identities by splitting a value into half and bit, the two settings by their difference in the chroma
halving. -/
theorem displacementFieldsRecombine : Obligations.DisplacementFieldsRecombine := by
  intro fullPel new o tr
  refine ⟨outputs_eq_displacement fullPel new, two_mul_half_add_bit o.l, two_mul_half_add_bit o.c, rfl, rfl, rfl, rfl,
    chromaHalve_trunc o.l, two_mul_half_add_bit tr.c, chromaHalve_trunc_eq_asr_iff o.l,
    chromaHalve_trunc_of_negative_odd, ?full_pel, outputs_ranges fullPel⟩
  case full_pel =>
    rintro rfl
    exact ⟨outputs_fullPel_lhalf new, outputsWith_trunc_fullPel new⟩

end Sys2Proof.DisplacementFields

/-! ## The inverse DCT: its kernel and the DC-only block (43_idct.md R186 to R190)

Column 0 of the kernel's matrix is constant, `2^22`. So the kernel spreads its first input evenly over its eight outputs, each pass
scales it by `2^22` and rounds, and the block comes out uniform. -/

namespace Sys2Proof.InverseDct

open Sys2Proof.Machine Sys2Proof.SpecTables

/-! ### The network is the matrix -/

/-- A row of eight, multiplied out against the inputs. -/
theorem sum_zipWith_toList (m₀ m₁ m₂ m₃ m₄ m₅ m₆ m₇ : Int) (v : Vec8 Int) :
    (List.zipWith (· * ·) [m₀, m₁, m₂, m₃, m₄, m₅, m₆, m₇] v.toList).sum =
      m₀ * v.v0 + m₁ * v.v1 + m₂ * v.v2 + m₃ * v.v3 + m₄ * v.v4 + m₅ * v.v5 + m₆ * v.v6 + m₇ * v.v7 := by
  simp only [Vec8.toList, List.zipWith_cons_cons, List.zipWith_nil_left, List.sum_cons, List.sum_nil]
  ring

/-- Settles O46: the stages of the network, multiplied out, give each output the coefficients of its row of the matrix. -/
theorem butterflyIsTheKernelMatrix : Obligations.ButterflyIsTheKernelMatrix := by
  intro v
  simp only [kernelMatrix, List.map_cons, List.map_nil, sum_zipWith_toList]
  simp only [Vec8.toList, butterfly, K0, K1, K2, K3, K4, K5, K6, K7, K8, KR, List.cons.injEq, and_true]
  refine ⟨?y0, ?y1, ?y2, ?y3, ?y4, ?y5, ?y6, ?y7⟩ <;> ring

/-! ### Rows and blocks that differ in their first entry only -/

/-- `a` first, then `z` seven times. -/
def firstThen {α : Type} (a z : α) : Vec8 α := ⟨a, z, z, z, z, z, z, z⟩

/-- `a` eight times. -/
def uniform {α : Type} (a : α) : Vec8 α := firstThen a a

@[simp] theorem get_uniform {α : Type} (a : α) (i : Fin 8) : (uniform a).get i = a := by
  fin_cases i <;> rfl

theorem get_firstThen_zero {α : Type} (a z : α) : (firstThen a z).get 0 = a := rfl

theorem get_firstThen_of_ne {α : Type} (a z : α) {i : Fin 8} (hi : i ≠ 0) : (firstThen a z).get i = z := by
  fin_cases i
  · exact absurd rfl hi
  all_goals rfl

theorem map_firstThen {α β : Type} (g : α → β) (a z : α) : (firstThen a z).map g = firstThen (g a) (g z) := rfl

theorem map_uniform {α β : Type} (g : α → β) (a : α) : (uniform a).map g = uniform (g a) := rfl

/-- Uniform rows make columns that are all alike. -/
theorem transpose_firstThen_uniform {α : Type} (a z : α) :
    transpose (firstThen (uniform a) (uniform z)) = uniform (firstThen a z) := rfl

theorem transpose_uniform_uniform {α : Type} (a : α) : transpose (uniform (uniform a)) = uniform (uniform a) := rfl

theorem toList_injective {α : Type} {a b : Vec8 α} (h : a.toList = b.toList) : a = b := by
  cases a; cases b; simpa [Vec8.toList] using h

/-! ### Rounding a multiple of a power of two -/

/-- A power of two common to the number and the unit cancels. -/
theorem rndShift_two_pow_mul (t : Nat) {s : Nat} (hs : 1 ≤ s) (v : Int) : rndShift (2 ^ t * v) (t + s) = rndShift v s := by
  have sign_eq : (2 ^ t * v).sign = v.sign := by
    rw [Int.sign_mul, Int.sign_eq_one_of_pos (by positivity), one_mul]
  have abs_eq : (2 ^ t * v).natAbs = 2 ^ t * v.natAbs := by
    simp [Int.natAbs_mul, Int.natAbs_pow]
  have half_eq : 2 ^ (t + s - 1) = 2 ^ t * 2 ^ (s - 1) := by
    rw [Nat.add_sub_assoc hs, pow_add]
  rw [rndShift, rndShift, sign_eq, abs_eq, half_eq, pow_add, ← mul_add, Nat.mul_div_mul_left _ _ (by positivity)]

/-- A whole number of units is its own nearest one. -/
theorem rndShift_of_multiple {s : Nat} (hs : 1 ≤ s) (v : Int) : rndShift (2 ^ s * v) s = v := by
  obtain ⟨nearest, -⟩ := Rounding.rndShift_isNearestTiesAway hs (2 ^ s * v)
  generalize rndShift (2 ^ s * v) s = r at nearest ⊢
  have unit_pos : (0 : Int) < 2 ^ s := by positivity
  have distance_eq : 2 * |2 ^ s * v - r * 2 ^ s| = 2 ^ s * (2 * |v - r|) := by
    rw [mul_comm r, ← mul_sub, abs_mul, abs_of_pos unit_pos, mul_left_comm]
  have at_most_half : 2 * |v - r| ≤ 1 := by
    rw [distance_eq] at nearest
    exact le_of_mul_le_mul_left (nearest.trans_eq (mul_one _).symm) unit_pos
  grind

/-! ### The DC-only block (R190) -/

/-- Of the matrix only column 0 is left. -/
theorem butterfly_dcOnly (d : Int) : butterfly (firstThen d 0) = uniform (2 ^ 22 * d) := by
  apply toList_injective
  rw [butterflyIsTheKernelMatrix]
  simp [kernelMatrix, firstThen, uniform, Vec8.toList]

/-- The 1-D kernel with one rounding, on a row whose first entry alone is not 0. -/
theorem run_dcOnly (shift : Nat) (d : Int) :
    Config.idct1d.run shift (firstThen d 0) = uniform (rndShift (2 ^ 22 * d) shift) :=
  congrArg (Vec8.map _) (butterfly_dcOnly d)

theorem run_sRow_dcOnly (d : Int) : Config.idct1d.run Config.sRow (firstThen d 0) = uniform (8 * d) := by
  have units : 2 ^ 22 * d = 2 ^ 19 * (8 * d) := by ring
  rw [run_dcOnly, units, Config.sRow, rndShift_of_multiple (by decide)]

theorem run_sCol_dcOnly (d : Int) : Config.idct1d.run Config.sCol (firstThen (8 * d) 0) = uniform (rndShift d 3) := by
  have units : 2 ^ 22 * (8 * d) = 2 ^ 25 * d := by ring
  have rounded : rndShift (2 ^ 25 * d) 28 = rndShift d 3 := rndShift_two_pow_mul 25 (s := 3) (by decide) d
  rw [run_dcOnly, units, Config.sCol, rounded]

/-- The block with `d` as its first entry and zeros elsewhere. -/
def dcBlock (d : Int) : Block := firstThen (firstThen d 0) (firstThen 0 0)

theorem rowPass_dcBlock (d : Int) : rowPass Config.idct1d (dcBlock d) = firstThen (uniform (8 * d)) (uniform 0) := by
  rw [rowPass, dcBlock, map_firstThen, run_sRow_dcOnly, run_sRow_dcOnly, mul_zero]

theorem idct2d_dcBlock (d : Int) : idct2d (dcBlock d) = uniform (uniform (rndShift d 3)) := by
  rw [idct2d, idctWith_eq, rowPass_dcBlock, columnPass, transpose_firstThen_uniform, map_uniform, run_sCol_dcOnly,
    transpose_uniform_uniform]

/-- Settles O49: the row pass is exact, so the column pass alone rounds. -/
theorem dcOnlyBlockBecomesUniform : Obligations.DcOnlyBlockBecomesUniform := by
  intro d
  change (∀ x, ((rowPass Config.idct1d (dcBlock d)).get 0).get x = 8 * d) ∧
    (∀ y x, y ≠ 0 → ((rowPass Config.idct1d (dcBlock d)).get y).get x = 0) ∧
    ∀ y x, ((idct2d (dcBlock d)).get y).get x = rndShift d 3
  rw [rowPass_dcBlock, idct2d_dcBlock]
  refine ⟨fun x => ?row_0, fun y x hy => ?other_rows, fun y x => ?residuals⟩
  case row_0 => rw [get_firstThen_zero, get_uniform]
  case other_rows => rw [get_firstThen_of_ne _ _ hy, get_uniform]
  case residuals => rw [get_uniform, get_uniform]

end Sys2Proof.InverseDct

/-! ## The system commands: `NOP` and `STATUS` (44_system.md R200, R201) -/

namespace Sys2Proof.SystemCommands

open Sys2Proof.Machine

theorem decodeCommand_nop {w : Word} (h : opcodeOf w = 0x00) : decodeCommand w = .ok .nop := by
  simp [decodeCommand, h]

theorem decodeCommand_status {w : Word} (h : opcodeOf w = 0x3F) : decodeCommand w = .ok .status := by
  simp [decodeCommand, h]

/-- Settles O51: `NOP` is the frame of a command round a body that only answers. -/
theorem nopDoesNothing : Obligations.NopDoesNothing :=
  ⟨fun _ => decodeCommand_nop, command_running 0x00 (fun s => .next (respond .ok s)),
    command_refused 0x00 (fun s => .next (respond .ok s))⟩

/-! ### The layout of the status word (10_state.md R30)

The word is a concatenation, so a field is found by dropping the parts below it. For that its width is read as the sum of the
widths of its parts. -/

theorem extractLsb'_statusWord (s : State) (start len : Nat) :
    (statusWord s).extractLsb' start len =
      @BitVec.extractLsb' (10 + 1 + 1 + 3 + 3 + 1 + 1 + 8 + 3 + 1) start len (statusWord s) := rfl

theorem getLsbD_statusWord (s : State) (i : Nat) :
    (statusWord s).getLsbD i = @BitVec.getLsbD (10 + 1 + 1 + 3 + 3 + 1 + 1 + 8 + 3 + 1) (statusWord s) i := rfl

/-- A bit above the lower part is a bit of the upper part. -/
theorem getLsbD_append_of_le {v w i : Nat} {hi : BitVec v} {lo : BitVec w} (h : w ≤ i) :
    (hi ++ lo).getLsbD i = hi.getLsbD (i - w) := by
  rw [BitVec.getLsbD_append, if_neg (not_lt.mpr h)]

theorem getLsbD_append_ofBool {v : Nat} (hi : BitVec v) (b : Bool) : (hi ++ BitVec.ofBool b).getLsbD 0 = b := by
  rw [BitVec.getLsbD_append, if_pos Nat.zero_lt_one, BitVec.getLsbD_ofBool, decide_eq_true rfl, Bool.true_and]

theorem statusWord_err (s : State) : (statusWord s).getLsbD 0 = s.err := getLsbD_append_ofBool _ _

theorem statusWord_ecode (s : State) : (statusWord s).extractLsb' 1 3 = s.ecode := by
  rw [extractLsb'_statusWord, statusWord]
  simp (disch := decide) only [BitVec.extractLsb'_append_eq_of_le, BitVec.extractLsb'_append_eq_right, Nat.reduceSub]

theorem statusWord_eop (s : State) : (statusWord s).extractLsb' 4 8 = s.eop := by
  rw [extractLsb'_statusWord, statusWord]
  simp (disch := decide) only [BitVec.extractLsb'_append_eq_of_le, BitVec.extractLsb'_append_eq_right, Nat.reduceSub]

theorem statusWord_validF (s : State) : (statusWord s).getLsbD 12 = s.mvrF.valid := by
  rw [getLsbD_statusWord, statusWord]
  simp (disch := decide) only [getLsbD_append_of_le, getLsbD_append_ofBool, Nat.reduceSub]

theorem statusWord_validB (s : State) : (statusWord s).getLsbD 13 = s.mvrB.valid := by
  rw [getLsbD_statusWord, statusWord]
  simp (disch := decide) only [getLsbD_append_of_le, getLsbD_append_ofBool, Nat.reduceSub]

theorem statusWord_rSizeF (s : State) : (statusWord s).extractLsb' 14 3 = rSizeCopy s.mvrF := by
  rw [extractLsb'_statusWord, statusWord]
  simp (disch := decide) only [BitVec.extractLsb'_append_eq_of_le, BitVec.extractLsb'_append_eq_right, Nat.reduceSub]

theorem statusWord_rSizeB (s : State) : (statusWord s).extractLsb' 17 3 = rSizeCopy s.mvrB := by
  rw [extractLsb'_statusWord, statusWord]
  simp (disch := decide) only [BitVec.extractLsb'_append_eq_of_le, BitVec.extractLsb'_append_eq_right, Nat.reduceSub]

theorem statusWord_fullPelF (s : State) : (statusWord s).getLsbD 20 = fullPelCopy s.mvrF := by
  rw [getLsbD_statusWord, statusWord]
  simp (disch := decide) only [getLsbD_append_of_le, getLsbD_append_ofBool, Nat.reduceSub]

theorem statusWord_fullPelB (s : State) : (statusWord s).getLsbD 21 = fullPelCopy s.mvrB := by
  rw [getLsbD_statusWord, statusWord]
  simp (disch := decide) only [getLsbD_append_of_le, getLsbD_append_ofBool, Nat.reduceSub]

theorem statusWord_reserved (s : State) : (statusWord s).extractLsb' 22 10 = 0 := by
  rw [extractLsb'_statusWord, statusWord]
  simp (disch := decide) only [BitVec.extractLsb'_append_eq_of_le]
  rfl

/-- The low 12 bits are the error record, its three fields side by side. -/
theorem statusWord_errorRecord (s : State) :
    (statusWord s).extractLsb' 0 12 = s.eop ++ (s.ecode ++ BitVec.ofBool s.err) := by
  have err_field : (statusWord s).extractLsb' 0 1 = BitVec.ofBool s.err := BitVec.extractLsb'_append_eq_right
  change (statusWord s).extractLsb' 0 (8 + (3 + 1)) = _
  rw [← BitVec.extractLsb'_append_extractLsb'_eq_extractLsb' (rfl : 4 = 0 + (3 + 1)),
    ← BitVec.extractLsb'_append_extractLsb'_eq_extractLsb' (rfl : 1 = 0 + 1),
    statusWord_eop, statusWord_ecode, err_field]

/-- Before any error the record is clear (60_exceptions.md R216). -/
theorem statusWord_errorRecord_clear {s : State} (inv : s.Inv) (running : s.err = false) :
    (statusWord s).extractLsb' 0 12 = 0 ∧ s.epos = 0 := by
  obtain ⟨ecode_clear, eop_clear, epos_clear⟩ := inv.errors.clear running
  refine ⟨?_, epos_clear⟩
  rw [statusWord_errorRecord, eop_clear, ecode_clear, running]
  rfl

/-- Settles O52: `STATUS` stands outside the frame of a command, so it answers in every state; its word is `statusWord`, read
field by field. -/
theorem statusReportsTheFields : Obligations.StatusReportsTheFields :=
  ⟨fun _ => decodeCommand_status, fun s =>
    ⟨statusWord s, rfl, statusWord_err s, statusWord_ecode s, statusWord_eop s, statusWord_validF s, statusWord_validB s,
      statusWord_rSizeF s, statusWord_rSizeB s, statusWord_fullPelF s, statusWord_fullPelB s, statusWord_reserved s,
      statusWord_errorRecord_clear⟩⟩

end Sys2Proof.SystemCommands

/-! ## The illegal f-code (60_exceptions.md R213) -/

namespace Sys2Proof.IllegalFCode

open Sys2Proof.Machine

/-- The body of `MVR.SETUP.d` raises before it touches a register. -/
theorem mvrSetup_zero (d : Dir) (fullPel : Bool) (s : State) :
    mvrSetup d fullPel 0 s = .next (raise .invalidFCode s) :=
  if_pos ((fCodeLegal_eq_false 0).mpr rfl)

/-- In a running block nothing but the frame of the command and the exception is left of it, whatever the direction. -/
theorem command_mvrSetup_zero (op : BitVec 8) (d : Dir) (fullPel : Bool) {s : State} (running : s.err = false) :
    command op (mvrSetup d fullPel 0) s = .next { s with
      op := op, acc := 0, err := true, ecode := 4, eop := op, epos := s.pos, responses := .err 4 :: s.responses } := by
  have running_begun : (beginCommand op s).err = false := running
  rw [command_running op _ s running, mvrSetup_zero, raise_of_not_err _ _ running_begun]
  rfl

/-- Settles O34: both commands are the one set-up body in the frame of a command, each with its opcode and direction. -/
theorem zeroFCodeRaisesInvalidFCode : Obligations.ZeroFCodeRaisesInvalidFCode := fun _ fullPel running =>
  ⟨command_mvrSetup_zero 0x10 .F fullPel running, command_mvrSetup_zero 0x11 .B fullPel running⟩

end Sys2Proof.IllegalFCode

/-! ## The code tables as complete codes (30_encoding.md R85, R86, R103)

A table's codes and its unused leading strings together split the windows of the table's width among themselves: every window begins with
exactly one of them. That is checked once for each table by following the strings bit by bit (`splits`); that no code begins
another, and the count of matching rows, follow from it. -/

namespace Sys2Proof.CodeTables

open Sys2Proof.SpecTables

/-- What is left of the strings that begin with `b`, that bit taken off. -/
def tailsOf (b : Bool) (codes : List Bits) : List Bits :=
  codes.filterMap fun c => if c.head? = some b then some c.tail else none

/-- The strings split the windows of `n` bits: either the empty string stands alone, or none is empty and the strings that begin with
0 and those that begin with 1 split the windows one bit shorter. -/
def splits : Nat → List Bits → Bool
  | 0, codes => decide (codes = [[]])
  | n + 1, codes =>
    decide (codes = [[]]) ||
      (decide ([] ∉ codes) && splits n (tailsOf false codes) && splits n (tailsOf true codes))

/-- How many of the strings begin the window. -/
def hits (codes : List Bits) (w : Bits) : Nat := codes.countP fun c => c.isPrefixOf w

theorem hits_cons_eq_hits_tailsOf {codes : List Bits} (nonempty : [] ∉ codes) (b : Bool) (w : Bits) :
    hits codes (b :: w) = hits (tailsOf b codes) w := by
  induction codes with
  | nil => rfl
  | cons c codes ih =>
    obtain ⟨hc, hcodes⟩ := not_or.1 (mt List.mem_cons.2 nonempty)
    specialize ih hcodes
    unfold hits tailsOf at ih ⊢
    cases c with
    | nil => exact absurd rfl hc
    | cons x c =>
      by_cases hx : x = b
      · subst hx
        simp [List.countP_cons, ih]
      · simp [ih, hx]

theorem hits_of_splits {n : Nat} {codes : List Bits} (h : splits n codes = true) {w : Bits} (hw : n ≤ w.length) :
    hits codes w = 1 := by
  induction n generalizing codes w with
  | zero =>
    obtain rfl : codes = [[]] := by simpa [splits] using h
    rfl
  | succ n ih =>
    simp only [splits, Bool.or_eq_true, Bool.and_eq_true, decide_eq_true_eq] at h
    obtain rfl | ⟨⟨nonempty, splits_false⟩, splits_true⟩ := h
    · rfl
    · cases w with
      | nil => simp at hw
      | cons b w =>
        replace hw : n ≤ w.length := by simpa using hw
        rw [hits_cons_eq_hits_tailsOf nonempty]
        cases b
        · exact ih splits_false hw
        · exact ih splits_true hw

/-- A string continued to `n` bits. -/
def padded (n : Nat) (c : Bits) : Bits := c ++ List.replicate (n - c.length) false

theorem le_padded_length (n : Nat) (c : Bits) : n ≤ (padded n c).length := by
  simp [padded]; omega

/-- Of two strings of which one begins the other, both begin the longer one continued. -/
theorem hits_cons_of_prefix {codes : List Bits} {a b w : Bits} (hb : b ∈ codes) (haw : a <+: w) (hbw : b <+: w) :
    2 ≤ hits (a :: codes) w := by
  have tail_hit : 0 < hits codes w := List.countP_pos_iff.2 ⟨b, hb, List.isPrefixOf_iff_prefix.2 hbw⟩
  have head_hit : hits (a :: codes) w = hits codes w + 1 :=
    List.countP_cons_of_pos (List.isPrefixOf_iff_prefix.2 haw)
  omega

/-- Of strings of which at most one begins any window none begins another. -/
theorem pairwise_of_hits_le_one {n : Nat} {codes : List Bits} (once : ∀ w : Bits, n ≤ w.length → hits codes w ≤ 1) :
    codes.Pairwise fun a b => a.isPrefixOf b = false ∧ b.isPrefixOf a = false := by
  induction codes with
  | nil => exact .nil
  | cons a codes ih =>
    refine .cons (fun b hb => ?free) (ih fun w hw => ?rest)
    case rest => exact ((List.sublist_cons_self a codes).countP_le).trans (once w hw)
    case free =>
      have not_both {c : Bits} (ha : a <+: c) (hb' : b <+: c) : False := by
        have continued : c <+: padded n c := List.prefix_append _ _
        have twice := hits_cons_of_prefix hb (ha.trans continued) (hb'.trans continued)
        have := once _ (le_padded_length n c)
        omega
      constructor <;> refine Bool.eq_false_iff.2 fun h => ?_ <;> rw [List.isPrefixOf_iff_prefix] at h
      · exact not_both h (List.prefix_refl b)
      · exact not_both (List.prefix_refl a) h

/-- The codes of a table. -/
def codes (t : Table) : List Bits := t.rows.map Prod.fst

theorem splits_codes (t : Table) : splits t.width (codes t ++ unusedPrefixes t) = true := by
  cases t <;> decide +kernel

theorem hits_codes_add_hits_unused (t : Table) {w : Bits} (hw : t.width ≤ w.length) :
    hits (codes t) w + hits (unusedPrefixes t) w = 1 := by
  have once := hits_of_splits (splits_codes t) hw
  rwa [hits, List.countP_append] at once

/-- Settles O11: the codes are part of strings that split the windows. -/
theorem codeTablesArePrefixFree : Obligations.CodeTablesArePrefixFree := fun t =>
  pairwise_of_hits_le_one fun _ hw => (Nat.le_add_right _ _).trans (hits_codes_add_hits_unused t hw).le

theorem hits_eq_zero_iff {codes : List Bits} {w : Bits} :
    hits codes w = 0 ↔ codes.any (fun p => p.isPrefixOf w) = false := by
  simp [hits, List.countP_eq_zero]

/-- Settles O13: of the strings that split the windows, one begins the window, and it is a code or an unused string. -/
theorem unusedWindowsAreExactlyTheListed : Obligations.UnusedWindowsAreExactlyTheListed := by
  intro t w hw
  have once := hits_codes_add_hits_unused t hw.ge
  have rows_hit : (t.rows.filter fun r => r.1.isPrefixOf w).length = hits (codes t) w := by
    rw [hits, codes, List.countP_map, List.countP_eq_length_filter]
    rfl
  rw [rows_hit]
  cases unused : (unusedPrefixes t).any (fun p => p.isPrefixOf w) with
  | false =>
    rw [hits_eq_zero_iff.2 unused] at once
    simpa using once
  | true =>
    have : hits (unusedPrefixes t) w ≠ 0 := by simp [hits_eq_zero_iff, unused]
    simp
    omega

/-- Settles O12: each sum is one of small powers of two. -/
theorem kraftSumsAreTheSpecs : Obligations.KraftSumsAreTheSpecs := by
  unfold Obligations.KraftSumsAreTheSpecs
  decide +kernel

end Sys2Proof.CodeTables

/-! ## Encoding and decoding (30_encoding.md R80 to R102)

A codeword is looked up by its code, so for the codewords both directions rest on two facts about the rows: a row's code is the encoding
of its instruction, and every instruction of a table's context but the escapes has a row. The escapes and the fields are followed
field by field, the command words through the word they are (`word_of_command`). -/

namespace Sys2Proof.Encoding

open Sys2Proof.Machine Sys2Proof.CodeTables

/-! ### Fields at the head of a string -/

theorem take_code_append (n v : Nat) (rest : Bits) : (code n v ++ rest).take n = code n v :=
  List.take_left' (code_length n v)

theorem drop_code_append (n v : Nat) (rest : Bits) : (code n v ++ rest).drop n = rest :=
  List.drop_left' (code_length n v)

theorem bitsToNat_code_toNat {n : Nat} (v : BitVec n) : bitsToNat (code n v.toNat) = v.toNat :=
  bitsToNat_code n v.toNat v.isLt

/-- A field of `n` bits at the head of a string that is long enough. -/
theorem eq_code_append_drop {n : Nat} {b : Bits} (h : n ≤ b.length) :
    b = code n (BitVec.ofNat n (bitsToNat (b.take n))).toNat ++ b.drop n := by
  have taken : (b.take n).length = n := List.length_take_of_le h
  have small := bitsToNat_lt (b.take n)
  have same := code_bitsToNat (b.take n)
  rw [taken] at small same
  rw [BitVec.toNat_ofNat, Nat.mod_eq_of_lt small, same, List.take_append_drop]

/-! ### The rows of the tables (R89 to R99) -/

/-- The three forms of the AC escape (R100), which have no row of their own in a table. -/
def isEscapeForm : Instr → Bool
  | .tAcEscapeShort _ _ | .tAcEscapeLongPos _ _ | .tAcEscapeLongNeg _ _ => true
  | _ => false

/-- A row's code is the encoding of its well-formed instruction; the escape's is `0000 01`. -/
def rowIsEncoding (r : Bits × Entry) : Bool :=
  match r.2 with
  | .row i => decide (encode i = r.1) && i.wellFormed
  | .escape => decide (r.1 = code 6 0b000001)

theorem rowIsEncoding_of_mem {t : Table} {r : Bits × Entry} (hr : r ∈ t.rows) : rowIsEncoding r = true := by
  have checked : t.rows.all rowIsEncoding = true := by cases t <;> decide +kernel
  exact List.all_eq_true.1 checked r hr

theorem lookup_encode {i : Instr} {t : Table} (h : i.ctx = .vlc t) (row : isEscapeForm i = false) :
    lookup t (encode i) = some (encode i, .row i) := by
  cases i with
  | tAcEscapeShort | tAcEscapeLongPos | tAcEscapeLongNeg => cases row
  | _ => cases h <;> (try rename_i s; revert s) <;> decide +kernel

theorem encode_mem_rows {i : Instr} {t : Table} (h : i.ctx = .vlc t) (row : isEscapeForm i = false) :
    (encode i, .row i) ∈ t.rows :=
  (lookup_eq_some t _ _ _ (lookup_encode h row)).1

/-- The rows of `T_ACN` but the end of block and `11s` are rows of `T_ACF` (R99). -/
theorem mem_acf_of_mem_acn {c : Bits} {i : Instr} (h : (c, .row i) ∈ Table.acn.rows) (notEob : i ≠ .tAcnEndOfBlock)
    (notNext : ∀ b, i ≠ .tAcnRun0Level1Next b) : (c, .row i) ∈ Table.acf.rows := by
  have either : (c, .row i) ∈ signedRows [(code 2 0b11, .tAcnRun0Level1Next)] ∨ (c, .row i) ∈ signedRows tAc := by
    simpa [Table.rows, tAcn, notEob] using h
  obtain short | shared := either
  · simp [signedRows, notNext] at short
  · exact List.mem_append_right _ shared

theorem decodeVlc_of_mem {t : Table} {c : Bits} {i : Instr} (h : (c, .row i) ∈ t.rows) (rest : Bits) :
    decodeVlc t (c ++ rest) = .ok i rest := by
  rw [decodeVlc, lookup_of_mem t _ _ (codeTablesArePrefixFree t) h (List.prefix_append _ _)]
  exact congrArg _ List.drop_left

/-! ### The escape (R100) -/

theorem decodeVlc_escape {t : Table} (ht : t = .acf ∨ t = .acn) (fields : Bits) :
    decodeVlc t (code 6 0b000001 ++ fields) = decodeEscape fields := by
  rw [decodeVlc, StreamFields.lookup_escape ht]
  rfl

/-- The escape body of a string that goes on with the run and the level byte. -/
theorem decodeEscape_fields (run : BitVec 6) (lv : BitVec 8) (rest : Bits) :
    decodeEscape (code 6 run.toNat ++ (code 8 lv.toNat ++ rest)) =
      if lv = 0x00#8 then
        if rest.length < 8 then .error .truncated
        else .ok (.tAcEscapeLongPos run (BitVec.ofNat 8 (bitsToNat (rest.take 8)))) (rest.drop 8)
      else if lv = 0x80#8 then
        if rest.length < 8 then .error .truncated
        else .ok (.tAcEscapeLongNeg run (BitVec.ofNat 8 (bitsToNat (rest.take 8)))) (rest.drop 8)
      else .ok (.tAcEscapeShort run lv) rest := by
  have drop_14 (b : Bits) : b.drop 14 = (b.drop 6).drop 8 := by rw [List.drop_drop]
  have drop_22 (b : Bits) : b.drop 22 = ((b.drop 6).drop 8).drop 8 := by rw [List.drop_drop, List.drop_drop]
  have long_iff : 6 + (8 + rest.length) < 22 ↔ rest.length < 8 := by omega
  have not_short : ¬ 6 + (8 + rest.length) < 14 := by omega
  simp only [decodeEscape, drop_14, drop_22, take_code_append, drop_code_append, bitsToNat_code_toNat, BitVec.ofNat_toNat,
    BitVec.setWidth_eq, List.length_append, code_length, long_iff, if_neg not_short]

/-- The three forms are decoded in either AC table: a short one by the level byte it has, a long one by the byte that announces it. -/
theorem decodeVlc_encode_escape {t : Table} (ht : t = .acf ∨ t = .acn) {i : Instr} (escape : isEscapeForm i = true)
    (wf : i.wellFormed = true) (rest : Bits) : decodeVlc t (encode i ++ rest) = .ok i rest := by
  have long_fits (m : BitVec 8) : ¬ (code 8 m.toNat ++ rest).length < 8 := by simp
  match i, escape with
  | .tAcEscapeShort run lv, _ =>
    obtain ⟨notPos, notNeg⟩ : lv ≠ 0x00#8 ∧ lv ≠ 0x80#8 := by simpa [Instr.wellFormed] using wf
    simp only [encode, List.append_assoc, decodeVlc_escape ht]
    rw [decodeEscape_fields, if_neg notPos, if_neg notNeg]
  | .tAcEscapeLongPos run m, _ =>
    simp only [encode, List.append_assoc, decodeVlc_escape ht]
    refine (decodeEscape_fields run 0x00#8 _).trans ?_
    rw [if_pos rfl, if_neg (long_fits m), take_code_append, drop_code_append, bitsToNat_code_toNat, BitVec.ofNat_toNat,
      BitVec.setWidth_eq]
  | .tAcEscapeLongNeg run m, _ =>
    simp only [encode, List.append_assoc, decodeVlc_escape ht]
    refine (decodeEscape_fields run 0x80#8 _).trans ?_
    rw [if_neg (by decide), if_pos rfl, if_neg (long_fits m), take_code_append, drop_code_append, bitsToNat_code_toNat,
      BitVec.ofNat_toNat, BitVec.setWidth_eq]

/-- What the escape body reads are the fields of a form of the escape. -/
theorem encode_of_decodeEscape {b rest : Bits} {i : Instr} (h : decodeEscape b = .ok i rest) :
    code 6 0b000001 ++ b = encode i ++ rest ∧ i.wellFormed = true := by
  have enough : ¬ b.length < 14 := fun short => by simp [decodeEscape, short] at h
  have run_read := eq_code_append_drop (n := 6) (b := b) (by omega)
  have level_read := eq_code_append_drop (n := 8) (b := b.drop 6) (by simp; omega)
  rw [level_read] at run_read
  generalize BitVec.ofNat 6 (bitsToNat (b.take 6)) = run at run_read
  generalize BitVec.ofNat 8 (bitsToNat ((b.drop 6).take 8)) = lv at run_read
  generalize (b.drop 6).drop 8 = fields at run_read
  subst run_read
  rw [decodeEscape_fields] at h
  have second_read (long : ¬ fields.length < 8) := eq_code_append_drop (not_lt.1 long)
  split_ifs at h with pos short neg short'
  · obtain ⟨rfl, rfl⟩ := Decoded.ok.inj h
    refine ⟨?_, rfl⟩
    conv_lhs => rw [second_read short, pos]
    simp [encode]
  · obtain ⟨rfl, rfl⟩ := Decoded.ok.inj h
    refine ⟨?_, rfl⟩
    conv_lhs => rw [second_read short', neg]
    simp [encode]
  · obtain ⟨rfl, rfl⟩ := Decoded.ok.inj h
    exact ⟨by simp [encode], by simp [Instr.wellFormed, pos, neg]⟩

/-- Settles O10: a row's code is the encoding of its instruction, and an escape is read field by field. -/
theorem encodeInvertsVlcDecode : Obligations.EncodeInvertsVlcDecode := by
  intro t b rest i h
  change decodeVlc t b = .ok i rest at h
  rw [decodeVlc] at h
  cases found : lookup t b with
  | none => simp [found] at h
  | some r =>
    obtain ⟨c, e⟩ := r
    obtain ⟨mem, rest', rfl⟩ := lookup_eq_some t b c e found
    have row := rowIsEncoding_of_mem mem
    cases e with
    | row j =>
      obtain ⟨rfl, rfl⟩ : j = i ∧ rest' = rest := by simpa [found] using h
      obtain ⟨rfl, wf⟩ : encode j = c ∧ j.wellFormed = true := by simpa [rowIsEncoding] using row
      exact ⟨rfl, wf⟩
    | escape =>
      obtain rfl : c = code 6 0b000001 := by simpa [rowIsEncoding] using row
      exact encode_of_decodeEscape (by simpa [found] using h)

/-! ### Fixed fields (R101, R102) -/

theorem decodeField_code {field : Nat → Nat → Option Instr} {n : Nat} {v : BitVec n} {i : Instr}
    (h : field n v.toNat = some i) (rest : Bits) : decodeField field n (code n v.toNat ++ rest) = .ok i rest := by
  simp [decodeField, bitsToNat_code_toNat, h]

/-! ### Command words (R81, R82) -/

/-- The word with an opcode above its 24 operand bits (R81). -/
def word (op : BitVec 8) (operands : BitVec 24) : Word := op ++ operands

theorem opcodeOf_word (op : BitVec 8) (operands : BitVec 24) : opcodeOf (word op operands) = op :=
  BitVec.extractLsb'_append_eq_left

theorem extractLsb'_word (op : BitVec 8) (operands : BitVec 24) {start len : Nat} (h : start + len ≤ 24) :
    (word op operands).extractLsb' start len = operands.extractLsb' start len :=
  BitVec.extractLsb'_append_eq_of_add_le h

theorem getLsbD_word (op : BitVec 8) (operands : BitVec 24) {k : Nat} (h : k < 24) :
    (word op operands).getLsbD k = operands.getLsbD k := by
  rw [word, BitVec.getLsbD_append, if_pos h]

/-- A 32-bit word in transmission order reads back as itself. -/
theorem ofNat_bitsToNat_code (w : Word) : BitVec.ofNat 32 (bitsToNat (code 32 w.toNat)) = w := by
  rw [bitsToNat_code_toNat, BitVec.ofNat_toNat, BitVec.setWidth_eq]

theorem command32_eq (op : BitVec 8) (operands : BitVec 24) : command32 op operands = code 32 (word op operands).toNat := rfl

theorem commandWord_of_encode {i : Instr} {op : BitVec 8} {operands : BitVec 24} (h : encode i = command32 op operands) :
    commandWord i = word op operands := by
  rw [commandWord, h, command32_eq, ofNat_bitsToNat_code]


/-! The operand fields of R82 are found where the encoder puts them. -/

theorem setupOperands_fullPel (fullPel : Bool) (fCode : BitVec 3) : (setupOperands fullPel fCode).getLsbD 3 = fullPel :=
  (SystemCommands.getLsbD_append_of_le (le_refl 3)).trans (SystemCommands.getLsbD_append_ofBool (0#20) fullPel)

theorem setupOperands_fCode (fullPel : Bool) (fCode : BitVec 3) : (setupOperands fullPel fCode).extractLsb' 0 3 = fCode :=
  BitVec.extractLsb'_append_eq_right

theorem calcOperands_fields (codeH rH codeV rV : BitVec 6) :
    (calcOperands codeH rH codeV rV).extractLsb' 18 6 = codeH ∧ (calcOperands codeH rH codeV rV).extractLsb' 12 6 = rH ∧
      (calcOperands codeH rH codeV rV).extractLsb' 6 6 = codeV ∧ (calcOperands codeH rH codeV rV).extractLsb' 0 6 = rV := by
  change @BitVec.extractLsb' (6 + 6 + 6 + 6) 18 6 (codeH ++ rH ++ codeV ++ rV) = _ ∧
    @BitVec.extractLsb' (6 + 6 + 6 + 6) 12 6 (codeH ++ rH ++ codeV ++ rV) = _ ∧
    @BitVec.extractLsb' (6 + 6 + 6 + 6) 6 6 (codeH ++ rH ++ codeV ++ rV) = _ ∧
    @BitVec.extractLsb' (6 + 6 + 6 + 6) 0 6 (codeH ++ rH ++ codeV ++ rV) = _
  simp (disch := decide) only [BitVec.extractLsb'_append_eq_of_le, BitVec.extractLsb'_append_eq_right, Nat.reduceSub]
  exact ⟨BitVec.extractLsb'_eq_self, trivial, trivial, trivial⟩

theorem writeOperands_idx (idx : BitVec 6) (value : BitVec 16) :
    (0#2 ++ idx ++ value : BitVec 24).extractLsb' 16 6 = idx :=
  (BitVec.extractLsb'_append_eq_of_le (le_refl 16)).trans BitVec.extractLsb'_append_eq_right

theorem writeOperands_value (idx : BitVec 6) (value : BitVec 16) :
    (0#2 ++ idx ++ value : BitVec 24).extractLsb' 0 16 = value :=
  BitVec.extractLsb'_append_eq_right

theorem sizeOperand (size : BitVec 4) : (0#20 ++ size : BitVec 24).extractLsb' 0 4 = size :=
  BitVec.extractLsb'_append_eq_right

/-- The word of a command decodes to the command. -/
theorem decodeCommand_commandWord {i : Instr} (h : i.ctx = .command) : decodeCommand (commandWord i) = .ok i := by
  have of_word {op : BitVec 8} {operands : BitVec 24} (henc : encode i = command32 op operands)
      (hword : decodeCommand (word op operands) = .ok i) : decodeCommand (commandWord i) = .ok i := by
    rw [commandWord_of_encode henc, hword]
  have ok {j : Instr} (hj : j = i) : (Except.ok j : Except Reject Instr) = .ok i := congrArg _ hj
  cases i with
  | vldDcd size =>
    refine of_word rfl ?_
    rw [decodeCommand, opcodeOf_word]
    exact ok (by rw [extractLsb'_word _ _ (by decide), sizeOperand])
  | mvrSetupF fullPel fCode | mvrSetupB fullPel fCode =>
    refine of_word rfl ?_
    rw [decodeCommand, opcodeOf_word]
    exact ok (by rw [extractLsb'_word _ _ (by decide), getLsbD_word _ _ (by decide), setupOperands_fullPel, setupOperands_fCode])
  | mvrCalcF codeH rH codeV rV | mvrCalcB codeH rH codeV rV =>
    refine of_word rfl ?_
    obtain ⟨field_codeH, field_rH, field_codeV, field_rV⟩ := calcOperands_fields codeH rH codeV rV
    rw [decodeCommand, opcodeOf_word]
    exact ok (by simp only [extractLsb'_word, Nat.reduceAdd, Nat.reduceLeDiff, field_codeH, field_rH, field_codeV, field_rV])
  | cbWr idx value =>
    refine of_word rfl ?_
    rw [decodeCommand, opcodeOf_word]
    exact ok (by rw [extractLsb'_word _ _ (by decide), extractLsb'_word _ _ (by decide), writeOperands_idx, writeOperands_value])
  | cbRd idx =>
    refine of_word rfl ?_
    rw [decodeCommand, opcodeOf_word]
    exact ok (by rw [extractLsb'_word _ _ (by decide), writeOperands_idx])
  | _ => cases h <;> rfl

theorem encode_eq_code_commandWord {i : Instr} (h : i.ctx = .command) : encode i = code 32 (commandWord i).toNat := by
  have of_command32 {op : BitVec 8} {operands : BitVec 24} (h : encode i = command32 op operands) :
      encode i = code 32 (commandWord i).toNat := by
    rw [commandWord_of_encode h, h, command32_eq]
  cases i <;> cases h <;> exact of_command32 rfl

/-! ### Every instruction (R80) -/

theorem decode_command_word (w : Word) (rest : Bits) {i : Instr} (h : decodeCommand w = .ok i) :
    decode .command (code 32 w.toNat ++ rest) = .ok i rest := by
  have enough : ¬ (code 32 w.toNat ++ rest).length < 32 := by simp
  simp only [decode, if_neg enough, take_code_append, drop_code_append, ofNat_bitsToNat_code, h]

theorem decode_encode_dcDiff {n : Nat} {i : Instr} (h : i.ctx = .dcDiff n) (rest : Bits) :
    decode (.dcDiff n) (encode i ++ rest) = .ok i rest := by
  have field {m : Nat} {v : BitVec m} (hf : dcDiffField m v.toNat = some i) :
      decode (.dcDiff m) (code m v.toNat ++ rest) = .ok i rest := decodeField_code hf rest
  cases i with
  | dcDiffSize1 v | dcDiffSize2 v | dcDiffSize3 v | dcDiffSize4 v | dcDiffSize5 v | dcDiffSize6 v | dcDiffSize7 v
  | dcDiffSize8 v => cases h; exact field (v := v) (by simp [dcDiffField])
  | _ => cases h

theorem decode_encode_residual {n : Nat} {i : Instr} (h : i.ctx = .residual n) (rest : Bits) :
    decode (.residual n) (encode i ++ rest) = .ok i rest := by
  have field {m : Nat} {v : BitVec m} (hf : residualField m v.toNat = some i) :
      decode (.residual m) (code m v.toNat ++ rest) = .ok i rest := decodeField_code hf rest
  cases i with
  | mvResidualRSize1 v | mvResidualRSize2 v | mvResidualRSize3 v | mvResidualRSize4 v | mvResidualRSize5 v
  | mvResidualRSize6 v => cases h; exact field (v := v) (by simp [residualField])
  | _ => cases h

/-- An escape is an instruction of `T_ACN` (log entry 9). -/
theorem ctx_of_isEscapeForm {i : Instr} (h : isEscapeForm i = true) : i.ctx = .vlc .acn :=
  match i, h with
  | .tAcEscapeShort _ _, _ | .tAcEscapeLongPos _ _, _ | .tAcEscapeLongNeg _ _, _ => rfl

theorem decode_encode_vlc {t : Table} {i : Instr} (h : i.ctx = .vlc t) (wf : i.wellFormed = true) (rest : Bits) :
    decode (.vlc t) (encode i ++ rest) = .ok i rest := by
  cases escape : isEscapeForm i with
  | false => exact decodeVlc_of_mem (encode_mem_rows h escape) rest
  | true =>
    obtain rfl : t = .acn := Ctx.vlc.inj (h.symm.trans (ctx_of_isEscapeForm escape))
    exact decodeVlc_encode_escape (.inr rfl) escape wf rest

/-- What the two AC tables share is decoded alike in both (R99). -/
theorem decode_encode_acf {i : Instr} (h : i.ctx = .vlc .acn) (wf : i.wellFormed = true) (notEob : i ≠ .tAcnEndOfBlock)
    (notNext : ∀ b, i ≠ .tAcnRun0Level1Next b) (rest : Bits) : decode (.vlc .acf) (encode i ++ rest) = .ok i rest := by
  cases escape : isEscapeForm i with
  | false => exact decodeVlc_of_mem (mem_acf_of_mem_acn (encode_mem_rows h escape) notEob notNext) rest
  | true => exact decodeVlc_encode_escape (.inl rfl) escape wf rest

/-- Settles O9, context by context. -/
theorem decodeInvertsEncode : Obligations.DecodeInvertsEncode := by
  refine ⟨fun i rest wf => ?own_context, fun i rest wf ctx notEob notNext => decode_encode_acf ctx wf notEob notNext rest⟩
  cases ctx : i.ctx with
  | command =>
    rw [encode_eq_code_commandWord ctx]
    exact decode_command_word _ rest (decodeCommand_commandWord ctx)
  | vlc t => exact decode_encode_vlc ctx wf rest
  | dcDiff n => exact decode_encode_dcDiff ctx rest
  | residual n => exact decode_encode_residual ctx rest

end Sys2Proof.Encoding

/-! ## The motion-vector reconstructor (42_mvr.md R161 to R169)

With legal operands the per-axis function adds one motion delta and, where the sum leaves `[-16 f, 16 f - 1]`, takes `32 f` back against the
sign of the code. The delta has the sign of the code and is at most `16 f` in magnitude, so one turn back is enough. -/

namespace Sys2Proof.MotionVectors

open Sys2Proof.Machine Sys2Proof.SpecTables

/-! ### One axis -/

/-- The residual of a code is below the scale where it is used (R166). -/
def ResidualLegal (f : Nat) (code : Int) (r : Nat) : Prop := f = 1 ∨ code = 0 ∨ r < f

/-- The complement of a legal residual: 0 where the residual is not used (R165). -/
def legalComplement (f : Nat) (code : Int) (r : Nat) : Int := if f = 1 ∨ code = 0 then 0 else (f : Int) - 1 - r

theorem residualComplement_of_legal {f r : Nat} {code : Int} (legal : ResidualLegal f code r) :
    residualComplement f code r = some (legalComplement f code r) := by
  unfold residualComplement legalComplement
  split
  next => rfl
  next used =>
    have below : ¬ f ≤ r := by
      obtain h | h | h := legal
      · exact absurd (.inl h) used
      · exact absurd (.inr h) used
      · exact not_le.2 h
    rw [if_neg below]

theorem motionDelta_eq (f : Nat) (code : Int) (r : Nat) :
    motionDelta f code r =
      if 0 < code then code * f - legalComplement f code r else code * f + legalComplement f code r := by
  have unit_iff : ((f : Int) = 1 ∨ code = 0) ↔ (f = 1 ∨ code = 0) := by norm_cast
  simp only [motionDelta, legalComplement, unit_iff]
  split <;> simp

theorem mvAxis_of_legal {f r : Nat} {code : Int} (legal : ResidualLegal f code r) (prev : Int) :
    mvAxis f code r prev =
      some (if -((f : Int) * 16) ≤ prev + motionDelta f code r ∧ prev + motionDelta f code r ≤ (f : Int) * 16 - 1 then
        prev + motionDelta f code r else prev + motionDelta f code r - code.sign * (f * 32)) := by
  simp only [mvAxis, residualComplement_of_legal legal, motionDelta_eq]
  obtain neg | rfl | pos := lt_trichotomy code 0
  · simp only [if_neg (not_lt.2 neg.le), if_pos neg, Int.sign_eq_neg_one_of_neg neg, ← apply_ite some, neg_one_mul, sub_neg_eq_add,
      add_assoc]
  · simp [legalComplement]
  · simp only [if_pos pos, Int.sign_eq_one_of_pos pos, ← apply_ite some, one_mul, add_sub_assoc]

/-- The delta has the sign of its code and is at most `16 f` in magnitude. -/
theorem motionDelta_bounds {f r : Nat} {code : Int} (hf : 1 ≤ f) (lo : -16 ≤ code) (hi : code ≤ 16)
    (legal : ResidualLegal f code r) :
    (0 < code → 1 ≤ motionDelta f code r ∧ motionDelta f code r ≤ 16 * f) ∧ (code = 0 → motionDelta f code r = 0) ∧
      (code < 0 → -(16 * (f : Int)) ≤ motionDelta f code r ∧ motionDelta f code r ≤ -1) := by
  rw [motionDelta_eq]
  refine ⟨fun pos => ?_, fun zero => by simp [zero, legalComplement], fun neg => ?_⟩
  · have product_lo : 1 * (f : Int) ≤ code * f := mul_le_mul_of_nonneg_right pos (by omega)
    have product_hi : code * (f : Int) ≤ 16 * f := mul_le_mul_of_nonneg_right hi (by omega)
    unfold ResidualLegal legalComplement at *
    rw [if_pos pos]
    split <;> omega
  · have product_lo : -16 * (f : Int) ≤ code * f := mul_le_mul_of_nonneg_right lo (by omega)
    have product_hi : code * (f : Int) ≤ -1 * f := mul_le_mul_of_nonneg_right (by omega) (by omega)
    unfold ResidualLegal legalComplement at *
    rw [if_neg (not_lt.2 neg.le)]
    split <;> omega

/-- The per-axis function wraps the sum into the range of a predictor. -/
theorem mvAxis_wraps {f r : Nat} {code prev : Int} (hf : 1 ≤ f) (lo : -16 ≤ code) (hi : code ≤ 16)
    (prev_lo : -(16 * (f : Int)) ≤ prev) (prev_hi : prev ≤ 16 * (f : Int) - 1) (legal : ResidualLegal f code r) :
    ∃ new : Int, mvAxis f code r prev = some new ∧ -(16 * (f : Int)) ≤ new ∧ new ≤ 16 * (f : Int) - 1 ∧
      (32 * (f : Int)) ∣ new - (prev + motionDelta f code r) := by
  refine ⟨_, mvAxis_of_legal legal prev, ?_⟩
  obtain ⟨bounds_pos, bounds_zero, bounds_neg⟩ := motionDelta_bounds hf lo hi legal
  generalize motionDelta f code r = δ at *
  split
  next inside => exact ⟨by omega, by omega, by simp⟩
  next outside =>
    rw [← and_assoc]
    refine ⟨?_, ⟨-code.sign, by ring⟩⟩
    obtain neg | rfl | pos := lt_trichotomy code 0
    · rw [Int.sign_eq_neg_one_of_neg neg]; omega
    · specialize bounds_zero rfl; omega
    · rw [Int.sign_eq_one_of_pos pos]; omega

/-- Settles O36. -/
theorem mvAxisWrapsIntoTheRange : Obligations.MvAxisWrapsIntoTheRange := by
  intro k r code prev _ lo hi prev_lo prev_hi legal
  have scale_cast : ((2 ^ k : Nat) : Int) = 2 ^ k := by norm_cast
  have legal : ResidualLegal (2 ^ k) code r := by
    obtain rfl | h := legal
    · exact .inl rfl
    · exact .inr h
  rw [← scale_cast] at prev_lo prev_hi ⊢
  exact mvAxis_wraps Nat.one_le_two_pow lo hi prev_lo prev_hi legal

/-! ### The registers of a direction -/

theorem scale_bounds {m : Mvr} (wf : m.Wf) (valid : m.valid = true) : 1 ≤ m.f.toNat ∧ m.f.toNat ≤ 64 := by
  rw [wf.scale valid]
  exact ⟨Nat.one_le_two_pow, Nat.pow_le_pow_right two_pos (wf.rSize_le valid)⟩

/-- The registers with both accumulators replaced. -/
def withPredictors (m : Mvr) (h v : Int) : Mvr :=
  { m with prevH := BitVec.ofInt Config.prevW h, prevV := BitVec.ofInt Config.prevW v }

/-- A value in the range of a predictor. -/
def InRange (m : Mvr) (v : Int) : Prop := -(16 * (m.f.toNat : Int)) ≤ v ∧ v ≤ 16 * (m.f.toNat : Int) - 1

/-- The range of a predictor fits an accumulator (R168). -/
theorem toInt_ofInt_of_inRange {m : Mvr} (wf : m.Wf) (valid : m.valid = true) {v : Int} (h : InRange m v) :
    (BitVec.ofInt Config.prevW v).toInt = v := by
  obtain ⟨lo, hi⟩ := h
  have := scale_bounds wf valid
  exact toInt_ofInt_prevW v (by omega) (by omega)

theorem wf_withPredictors {m : Mvr} (wf : m.Wf) (valid : m.valid = true) {h v : Int} (hh : InRange m h) (hv : InRange m v) :
    (withPredictors m h v).Wf where
  rSize_le := wf.rSize_le
  scale := wf.scale
  scale_range := wf.scale_range
  prevH_range _ := by rw [withPredictors, toInt_ofInt_of_inRange wf valid hh]; exact hh
  prevV_range _ := by rw [withPredictors, toInt_ofInt_of_inRange wf valid hv]; exact hv

/-! ### `MVR.SETUP.d` (R161, R162) -/

/-- What a legal f-code loads. -/
def setUpRegisters (fullPel : Bool) (fCode : BitVec 3) : Mvr :=
  { prevH := 0, prevV := 0, f := 1#7 <<< (fCode - 1).toNat, rSize := fCode - 1, fullPel := fullPel, valid := true }

theorem mvrSetup_of_ne_zero (d : Dir) (fullPel : Bool) {fCode : BitVec 3} (h : fCode ≠ 0) (s : State) :
    mvrSetup d fullPel fCode s =
      .next (respond (.setup (setUpRegisters fullPel fCode).f (setUpRegisters fullPel fCode).rSize)
        (s.setMvr d (setUpRegisters fullPel fCode))) :=
  if_neg (mt (fCodeLegal_eq_false fCode).1 h)

/-- The scale of each of the seven f-codes. -/
theorem setUpRegisters_scale (fullPel : Bool) {fCode : BitVec 3} (h : fCode ≠ 0) :
    (setUpRegisters fullPel fCode).rSize.toNat = fCode.toNat - 1 ∧
      (setUpRegisters fullPel fCode).f.toNat = 2 ^ (fCode.toNat - 1) ∧
      (setUpRegisters fullPel fCode).f.toNat ∈ Config.fRange := by
  revert fullPel fCode; decide

theorem wf_setUpRegisters (fullPel : Bool) {fCode : BitVec 3} (h : fCode ≠ 0) : (setUpRegisters fullPel fCode).Wf := by
  obtain ⟨rSize, scale, scale_range⟩ := setUpRegisters_scale fullPel h
  have positive : 1 ≤ (setUpRegisters fullPel fCode).f.toNat := scale ▸ Nat.one_le_two_pow
  have zero_inRange : InRange (setUpRegisters fullPel fCode) (0#12).toInt := by
    rw [BitVec.toInt_zero]; constructor <;> omega
  exact ⟨fun _ => by rw [rSize]; omega, fun _ => by rw [scale, rSize], fun _ => scale_range, fun _ => zero_inRange,
    fun _ => zero_inRange⟩

/-- Settles O33: both commands are the one set-up body in the frame of a command. -/
theorem mvrSetupLoadsTheScale : Obligations.MvrSetupLoadsTheScale := by
  intro s fullPel fCode running legal
  obtain ⟨rSize, scale, scale_range⟩ := setUpRegisters_scale fullPel legal
  have sets_up (op : BitVec 8) (d : Dir) := (command_running op (mvrSetup d fullPel fCode) s running).trans
    (mvrSetup_of_ne_zero d fullPel legal (beginCommand op s))
  exact ⟨setUpRegisters fullPel fCode, rSize, scale, scale_range, rfl, rfl, rfl, rfl, sets_up 0x10 .F, sets_up 0x11 .B⟩

/-! ### `MVR.CALC.d` (R166, R167) -/

/-- The checks of `MVR.CALC.d` pass on the registers `m`, and the axes give `nh` and `nv`. -/
structure Calculates (m : Mvr) (codeH rH codeV rV : BitVec 6) (nh nv : Int) : Prop where
  valid : m.valid = true
  codeH_legal : codeLegal codeH.toInt = true
  codeV_legal : codeLegal codeV.toInt = true
  horizontal : mvAxis m.f.toNat codeH.toInt rH.toNat m.prevH.toInt = some nh
  vertical : mvAxis m.f.toNat codeV.toInt rV.toNat m.prevV.toInt = some nv

theorem mvrCalc_of_calculates {d : Dir} {s : State} {codeH rH codeV rV : BitVec 6} {nh nv : Int}
    (h : Calculates (s.mvr d) codeH rH codeV rV nh nv) :
    mvrCalc d codeH rH codeV rV s =
      .next (respond (.vector (outputs (s.mvr d).fullPel nh) (outputs (s.mvr d).fullPel nv))
        (s.setMvr d (withPredictors (s.mvr d) nh nv))) := by
  simp [mvrCalc, codeOperand, residualOperand, h.valid, h.codeH_legal, h.codeV_legal, h.horizontal, h.vertical, withPredictors]

/-- Either every check passes, or the command raises `ProtocolError` before any write. -/
theorem mvrCalc_cases (d : Dir) (codeH rH codeV rV : BitVec 6) (s : State) :
    (∃ nh nv, Calculates (s.mvr d) codeH rH codeV rV nh nv) ∨
      mvrCalc d codeH rH codeV rV s = .next (raise .protocolError s) := by
  by_cases invalid : (s.mvr d).valid = false
  · exact .inr (if_pos invalid)
  by_cases illegal : codeLegal codeH.toInt = false ∨ codeLegal codeV.toInt = false
  · exact .inr ((if_neg invalid).trans (if_pos illegal))
  cases horizontal : mvAxis (s.mvr d).f.toNat codeH.toInt rH.toNat (s.mvr d).prevH.toInt with
  | none =>
    exact .inr (by simp only [mvrCalc, codeOperand, residualOperand, if_neg invalid, if_neg illegal, horizontal])
  | some nh =>
    cases vertical : mvAxis (s.mvr d).f.toNat codeV.toInt rV.toNat (s.mvr d).prevV.toInt with
    | none =>
      exact .inr (by simp only [mvrCalc, codeOperand, residualOperand, if_neg invalid, if_neg illegal, horizontal, vertical])
    | some nv =>
      obtain ⟨codeH_legal, codeV_legal⟩ := not_or.1 illegal
      exact .inl ⟨nh, nv, eq_true_of_ne_false invalid, eq_true_of_ne_false codeH_legal, eq_true_of_ne_false codeV_legal, horizontal,
        vertical⟩

theorem codeLegal_iff (code : Int) : codeLegal code = true ↔ -16 ≤ code ∧ code ≤ 16 := by
  simp [codeLegal]

/-- An axis that gives a result gives one in the range of a predictor. -/
theorem inRange_of_mvAxis {m : Mvr} (wf : m.Wf) (valid : m.valid = true) {code prev new : Int} {r : Nat}
    (legal : codeLegal code = true) (prev_range : InRange m prev) (h : mvAxis m.f.toNat code r prev = some new) :
    InRange m new ∧ (32 * (m.f.toNat : Int)) ∣ new - (prev + motionDelta m.f.toNat code r) := by
  obtain ⟨lo, hi⟩ := (codeLegal_iff code).1 legal
  have residual : ResidualLegal m.f.toNat code r := by
    have gives : mvAxis m.f.toNat code r prev ≠ none := by simp [h]
    rw [Ne, mvAxis_eq_none] at gives
    unfold ResidualLegal
    omega
  obtain ⟨new', h', new_lo, new_hi, congruent⟩ :=
    mvAxis_wraps (scale_bounds wf valid).1 lo hi prev_range.1 prev_range.2 residual
  obtain rfl := Option.some.inj (h.symm.trans h')
  exact ⟨⟨new_lo, new_hi⟩, congruent⟩

theorem Calculates.wf {m : Mvr} (wf : m.Wf) {codeH rH codeV rV : BitVec 6} {nh nv : Int}
    (h : Calculates m codeH rH codeV rV nh nv) : (withPredictors m nh nv).Wf :=
  wf_withPredictors wf h.valid (inRange_of_mvAxis wf h.valid h.codeH_legal (wf.prevH_range h.valid) h.horizontal).1
    (inRange_of_mvAxis wf h.valid h.codeV_legal (wf.prevV_range h.valid) h.vertical).1

/-- Legal codes and used residuals below the scale pass every check. -/
theorem exists_calculates {m : Mvr} (valid : m.valid = true) {ch rh cv rv : BitVec 6}
    (ch_legal : codeLegal ch.toInt = true) (cv_legal : codeLegal cv.toInt = true)
    (rh_legal : ResidualLegal m.f.toNat ch.toInt rh.toNat) (rv_legal : ResidualLegal m.f.toNat cv.toInt rv.toNat) :
    ∃ nh nv, Calculates m ch rh cv rv nh nv :=
  ⟨_, _, valid, ch_legal, cv_legal, mvAxis_of_legal rh_legal _, mvAxis_of_legal rv_legal _⟩

/-- A residual operand is legal by the comparisons of 60_exceptions.md R215 (f). -/
theorem residualLegal_iff (f : BitVec 7) (code r : BitVec 6) :
    ResidualLegal f.toNat code.toInt r.toNat ↔ f = 1 ∨ code = 0 ∨ r.toNat < f.toNat := by
  rw [ResidualLegal, ← BitVec.toInt_inj (x := code), ← BitVec.toNat_inj (x := f)]
  rfl

/-- Settles O37: the checks pass, and each axis wraps its sum into the range of a predictor. -/
theorem mvrCalcReconstructsTheVector : Obligations.MvrCalcReconstructsTheVector := by
  intro s d ch rh cv rv running m wf valid ch_lo ch_hi cv_lo cv_hi rh_legal rv_legal
  obtain ⟨nh, nv, calculates⟩ := exists_calculates valid ((codeLegal_iff _).2 ⟨ch_lo, ch_hi⟩)
    ((codeLegal_iff _).2 ⟨cv_lo, cv_hi⟩) ((residualLegal_iff ..).2 rh_legal) ((residualLegal_iff ..).2 rv_legal)
  obtain ⟨nh_range, nh_congruent⟩ :=
    inRange_of_mvAxis wf valid calculates.codeH_legal (wf.prevH_range valid) calculates.horizontal
  obtain ⟨nv_range, nv_congruent⟩ :=
    inRange_of_mvAxis wf valid calculates.codeV_legal (wf.prevV_range valid) calculates.vertical
  have stored_h : (withPredictors m nh nv).prevH.toInt = nh := toInt_ofInt_of_inRange wf valid nh_range
  have stored_v : (withPredictors m nh nv).prevV.toInt = nv := toInt_ofInt_of_inRange wf valid nv_range
  refine ⟨withPredictors m nh nv, by rwa [stored_h], by rwa [stored_v], calculates.wf wf, rfl, rfl, rfl, valid, ?_⟩
  rw [stored_h, stored_v]
  have calc_eq (op : BitVec 8) : command op (mvrCalc d ch rh cv rv) s =
      .next (respond (.vector (displacement m.fullPel nh) (displacement m.fullPel nv))
        ((beginCommand op s).setMvr d (withPredictors m nh nv))) := by
    have begun : (beginCommand op s).mvr d = m := Directions.beginCommand_mvr op s d
    rw [command_running op _ s running, mvrCalc_of_calculates (begun ▸ calculates), begun,
      DisplacementFields.outputs_eq_displacement, DisplacementFields.outputs_eq_displacement]
  constructor <;> rintro rfl
  · exact calc_eq 0x14
  · exact calc_eq 0x15

/-- What passes every check is none of the misuses of 60_exceptions.md R215 (d) to (f). -/
theorem Calculates.not_misuse {m : Mvr} {ch rh cv rv : BitVec 6} {nh nv : Int} (h : Calculates m ch rh cv rv nh nv) :
    ¬(m.valid = false ∨ ch.toInt < -16 ∨ 16 < ch.toInt ∨ cv.toInt < -16 ∨ 16 < cv.toInt ∨
      (m.f ≠ 1 ∧ ch ≠ 0 ∧ m.f.toNat ≤ rh.toNat) ∨ (m.f ≠ 1 ∧ cv ≠ 0 ∧ m.f.toNat ≤ rv.toNat)) := by
  have ch_legal := (codeLegal_iff _).1 h.codeH_legal
  have cv_legal := (codeLegal_iff _).1 h.codeV_legal
  have below {c r : BitVec 6} {prev new : Int} (hax : mvAxis m.f.toNat c.toInt r.toNat prev = some new) :
      ¬(m.f ≠ 1 ∧ c ≠ 0 ∧ m.f.toNat ≤ r.toNat) := by
    rw [Ne, ← BitVec.toNat_inj, Ne, ← BitVec.toInt_inj (x := c)]
    exact fun above => by simp [(mvAxis_eq_none _ _ _ prev).2 above] at hax
  rintro (invalid | lo | hi | lo | hi | above | above)
  · simp [h.valid] at invalid
  iterate 4 omega
  · exact below h.horizontal above
  · exact below h.vertical above

/-- Settles O38: the one other outcome of the body is `ProtocolError` before any write. -/
theorem mvrCalcMisuseRaisesProtocolError : Obligations.MvrCalcMisuseRaisesProtocolError := by
  intro s d ch rh cv rv running m misuse
  have raises (op : BitVec 8) : command op (mvrCalc d ch rh cv rv) s = .next { s with
      op := op, acc := 0, err := true, ecode := 5, eop := op, epos := s.pos, responses := .err 5 :: s.responses } := by
    have begun : (beginCommand op s).mvr d = m := Directions.beginCommand_mvr op s d
    obtain ⟨nh, nv, calculates⟩ | raised := mvrCalc_cases d ch rh cv rv (beginCommand op s)
    · exact absurd misuse (begun ▸ calculates).not_misuse
    · rw [command_running op _ s running, raised, raise_of_not_err _ (beginCommand op s) running]
      rfl
  constructor <;> rintro rfl
  · exact raises 0x14
  · exact raises 0x15

end Sys2Proof.MotionVectors

/-! ## What reads the stream (20_memory.md R71, 40_vld_macroblock.md R120, 41_vld_block.md R145)

Whatever the VLD does in a running block is chosen by the stream, the cursor and the running increment alone: the cursor moves on inside
the stream, the increment takes a new value, and then an answer is given, an error raised, or nothing said. That is said once for each
body (`RunsOnStream`); what the VLD leaves alone and what it does not read both follow from it. -/

namespace Sys2Proof.StreamBodies

open Sys2Proof.Machine Sys2Proof.SpecTables

/-! ### The cursor and the running increment -/

/-- The state with the cursor and the running increment replaced. -/
def moved (p a : Nat) (s : State) : State := { s with pos := p, acc := a }

@[simp] theorem moved_pos (p a : Nat) (s : State) : (moved p a s).pos = p := rfl

@[simp] theorem moved_bs (p a : Nat) (s : State) : (moved p a s).bs = s.bs := rfl

/-- A position the cursor can move on to: not back, and not past the end of the stream. -/
def Reach (s : State) (p : Nat) : Prop := s.pos ≤ p ∧ p ≤ max s.pos s.bs.length

theorem reach_self (s : State) : Reach s s.pos := ⟨le_rfl, le_max_left _ _⟩

theorem reach_skip {n : Nat} {s : State} (h : n ≤ s.remaining) : Reach s (s.pos + n) := by
  unfold State.remaining at h
  constructor <;> omega

theorem Reach.trans {s : State} {p q a : Nat} (hp : Reach s p) (hq : Reach (moved p a s) q) : Reach s q := by
  simp only [Reach, moved_pos, moved_bs] at *
  omega

/-- How a body ends once the cursor stands. -/
inductive Finish where
  /-- nothing is said: the command that runs the row goes on -/
  | quiet
  | answered (r : Response)
  | raised (k : ErrorKind)

def Finish.apply : Finish → State → State
  | .quiet, s => s
  | .answered r, s => respond r s
  | .raised k, s => raise k s

/-- The endings there are: quiet ones only where allowed, and every error but the Driver's (60_exceptions.md R214). -/
def Finish.Legal (quietAllowed : Prop) : Finish → Prop
  | .quiet => quietAllowed
  | .answered _ => True
  | .raised k => k ≠ .missingReference

/-- The two states hold the same stream at the same cursor, with the same running increment and the same `ERR`. -/
structure SameStream (s s' : State) : Prop where
  bs : s'.bs = s.bs
  pos : s'.pos = s.pos
  acc : s'.acc = s.acc
  err : s'.err = s.err

theorem sameStream_refl (s : State) : SameStream s s := ⟨rfl, rfl, rfl, rfl⟩

theorem SameStream.remaining {s s' : State} (h : SameStream s s') : s'.remaining = s.remaining := by
  rw [State.remaining, State.remaining, h.bs, h.pos]

theorem SameStream.unread {s s' : State} (h : SameStream s s') : s'.unread = s.unread := by
  rw [State.unread, State.unread, h.bs, h.pos]

theorem SameStream.moved {s s' : State} (h : SameStream s s') (p a : Nat) : SameStream (moved p a s) (moved p a s') :=
  ⟨h.bs, rfl, rfl, h.err⟩

theorem SameStream.moved_self {s s' : State} (h : SameStream s s') : StreamBodies.moved s.pos s.acc s' = s' := by
  rw [StreamBodies.moved, ← h.pos, ← h.acc]

theorem SameStream.bitSkip {s s' : State} (h : SameStream s s') (n : Nat) :
    bitSkip n s' = StreamBodies.moved (s.pos + n) s.acc s' := by
  rw [Machine.bitSkip, StreamBodies.moved, ← h.pos, ← h.acc]

/-! ### Updates -/

/-- On the states that hold the stream of `s`, the update `g` moves the cursor and sets the increment alike, and ends alike. -/
def EndsOnStream (quietAllowed : Prop) (g : State → State) (s : State) : Prop :=
  ∃ p a e, Reach s p ∧ Finish.Legal quietAllowed e ∧ ∀ s', SameStream s s' → g s' = e.apply (moved p a s')

/-- The update does so from every running state. -/
def ReadsStream (quietAllowed : Prop) (g : State → State) : Prop := ∀ s, s.err = false → EndsOnStream quietAllowed g s

section
variable {quietAllowed : Prop}

theorem endsOnStream_of_finish {e : Finish} (h : e.Legal quietAllowed) (s : State) : EndsOnStream quietAllowed e.apply s :=
  ⟨s.pos, s.acc, e, reach_self s, h, fun _ same => by rw [same.moved_self]⟩

theorem endsOnStream_respond (r : Response) (s : State) : EndsOnStream quietAllowed (respond r) s :=
  endsOnStream_of_finish (e := .answered r) trivial s

theorem endsOnStream_raise {k : ErrorKind} (h : k ≠ .missingReference) (s : State) : EndsOnStream quietAllowed (raise k) s :=
  endsOnStream_of_finish (e := .raised k) h s

theorem EndsOnStream.congr {g g' : State → State} {s : State} (h : EndsOnStream quietAllowed g s)
    (hg : ∀ s', SameStream s s' → g' s' = g s') : EndsOnStream quietAllowed g' s := by
  obtain ⟨p, a, e, reach, legal, ends⟩ := h
  exact ⟨p, a, e, reach, legal, fun s' same => (hg s' same).trans (ends s' same)⟩

/-- First move, then go on with `g`. -/
theorem EndsOnStream.after_moved {g : State → State} {s : State} {p a : Nat} (reach : Reach s p)
    (h : EndsOnStream quietAllowed g (moved p a s)) : EndsOnStream quietAllowed (fun s' => g (moved p a s')) s := by
  obtain ⟨p', a', e, reach', legal, ends⟩ := h
  exact ⟨p', a', e, reach.trans reach', legal, fun s' same => ends _ (same.moved p a)⟩

theorem EndsOnStream.after_skip {g : State → State} {s : State} {n : Nat} (hn : n ≤ s.remaining)
    (h : EndsOnStream quietAllowed g (bitSkip n s)) : EndsOnStream quietAllowed (fun s' => g (bitSkip n s')) s :=
  (h.after_moved (a := s.acc) (reach_skip hn)).congr fun s' same => by rw [same.bitSkip]

theorem readsStream_respond (r : Response) : ReadsStream quietAllowed (respond r) := fun s _ => endsOnStream_respond r s

/-- An increment code ends the command with the running increment cleared. -/
theorem readsStream_increment (v : Nat) :
    ReadsStream quietAllowed fun s => respond (.mba (s.acc + v)) { s with acc := 0 } := fun s _ =>
  ⟨s.pos, 0, .answered (.mba (s.acc + v)), reach_self s, trivial, fun s' same => by
    rw [← same.acc, ← same.pos]; rfl⟩

/-- Fields of fixed widths, consumed one after another. -/
theorem readsStream_takeFields {finish : State → State} (h : ReadsStream quietAllowed finish) (ns : List Nat) :
    ReadsStream quietAllowed (takeFields ns finish) := by
  induction ns with
  | nil => exact h
  | cons n ns ih =>
    intro s running
    by_cases short : s.remaining < n
    · exact (endsOnStream_raise (k := .unexpectedEndOfStream) (by decide) s).congr fun s' same =>
        if_pos (same.remaining ▸ short)
    · exact ((ih (bitSkip n s) running).after_skip (not_lt.1 short)).congr fun s' same => if_neg (same.remaining ▸ short)

/-- `BitRead(n)` and what goes on with its value. -/
theorem readsStream_bitRead {n : Nat} {f : Nat → State → State} (h : ∀ v, ReadsStream quietAllowed (f v)) :
    ReadsStream quietAllowed fun s =>
      match bitRead n s with
      | none => raise .unexpectedEndOfStream s
      | some (v, t) => f v t := by
  intro s running
  by_cases short : s.remaining < n
  · exact (endsOnStream_raise (k := .unexpectedEndOfStream) (by decide) s).congr fun s' same => by
      simp only [StreamFields.bitRead_eq_none (same.remaining ▸ short)]
  · refine ((h (bitsToNat (s.unread.take n)) (bitSkip n s) running).after_skip (not_lt.1 short)).congr fun s' same => ?_
    obtain ⟨short', -⟩ | ⟨-, read⟩ := bitRead_cases n s'
    · exact absurd (same.remaining ▸ short') short
    · simp only [read, same.unread]

theorem readsStream_escapeFinish (run : BitVec 6) (level : Int) (forbidden : Bool) :
    ReadsStream quietAllowed (escapeFinish Config.escForbidden run level forbidden) := by
  simp only [funext (escapeFinish_pass run level forbidden)]
  exact readsStream_respond _

theorem ReadsStream.ite {c : Prop} [Decidable c] {g g' : State → State} (h : ReadsStream quietAllowed g)
    (h' : ReadsStream quietAllowed g') : ReadsStream quietAllowed fun s => if c then g s else g' s := by
  split
  · exact h
  · exact h'

theorem readsStream_escapeBody : ReadsStream quietAllowed escapeBody :=
  readsStream_bitRead fun _ => readsStream_bitRead fun _ =>
    (readsStream_bitRead fun _ => readsStream_escapeFinish _ _ _).ite
      ((readsStream_bitRead fun _ => readsStream_escapeFinish _ _ _).ite (readsStream_escapeFinish _ _ _))

end

/-! ### Bodies -/

/-- From a running state the body answers the next state, and gets there like such an update. -/
def RunsOnStream (quietAllowed : Prop) (body : State → Outcome) : Prop :=
  ∀ s, s.err = false → ∃ g, EndsOnStream quietAllowed g s ∧ ∀ s', SameStream s s' → body s' = .next (g s')

section
variable {quietAllowed : Prop}

theorem runsOnStream_codeword {t : Table} {len : Nat} {deliver : State → State} (hlen : len ≤ t.width)
    (h : ReadsStream quietAllowed deliver) : RunsOnStream quietAllowed (codeword t len deliver) := by
  intro s running
  by_cases short : s.remaining < t.width
  · refine ⟨_, endsOnStream_raise (k := .unexpectedEndOfStream) (by decide) s, fun s' same => ?_⟩
    simp [codeword, codewordThen, same.err, running, same.remaining, short]
  · refine ⟨_, (h (bitSkip len s) running).after_skip (hlen.trans (not_lt.1 short)), fun s' same => ?_⟩
    exact codeword_running t len deliver s' (same.err.trans running) (same.remaining ▸ not_lt.1 short)

theorem runsOnStream_field {n : Nat} {deliver : State → State} (h : ReadsStream quietAllowed deliver) :
    RunsOnStream quietAllowed (field n deliver) := by
  intro s running
  by_cases short : s.remaining < n
  · refine ⟨_, endsOnStream_raise (k := .unexpectedEndOfStream) (by decide) s, fun s' same => ?_⟩
    simp [field, same.err, running, same.remaining, short]
  · refine ⟨_, (h (bitSkip n s) running).after_skip (not_lt.1 short), fun s' same => ?_⟩
    simp [field, same.err, running, same.remaining, short]

/-- `VLD.DCD` (41_vld_block.md R142). -/
theorem runsOnStream_dcdBody (size : Nat) : RunsOnStream quietAllowed (dcdBody size) := by
  intro s running
  obtain large | small := lt_or_ge 8 size
  · exact ⟨_, endsOnStream_raise (k := .protocolError) (by decide) s, fun s' _ => StreamFields.dcdBody_of_gt large s'⟩
  obtain rfl | positive := Nat.eq_zero_or_pos size
  · exact ⟨_, endsOnStream_respond _ s, fun s' _ => StreamFields.dcdBody_zero s'⟩
  refine ⟨_, readsStream_bitRead (n := size) (fun raw => readsStream_respond (.dcDiff (dcDiff size raw))) s running, fun s' _ => ?_⟩
  obtain ⟨-, read⟩ | ⟨-, read⟩ := bitRead_cases size s'
  · rw [StreamFields.dcdBody_of_bitRead_none positive small read]
    simp only [read]
  · rw [StreamFields.dcdBody_of_bitRead_some positive small read]
    simp only [read]

end

/-! ### Codewords (30_encoding.md R88) -/

/-- The two rows after which `VLD.MBA` goes on (R89, R121). -/
def GoesOn (i : Instr) : Prop := i = .tMbaStuffing ∨ i = .tMbaEscape

/-- Every codeword by itself is a codeword of its table. -/
theorem exec_eq_codeword {i : Instr} {t : Table} (h : i.ctx = .vlc t) :
    ∃ len deliver, len ≤ t.width ∧ ReadsStream (GoesOn i) deliver ∧ ∀ s, exec i s = codeword t len deliver s := by
  cases i with
  | tMbaStuffing =>
    cases h
    exact ⟨11, id, by decide, fun s _ => endsOnStream_of_finish (e := .quiet) (.inl rfl) s, fun _ => rfl⟩
  | tMbaEscape =>
    cases h
    exact ⟨11, fun s => { s with acc := s.acc + 33 }, by decide, fun s _ =>
      ⟨s.pos, s.acc + 33, .quiet, reach_self s, .inr rfl, fun s' same => by rw [← same.pos, ← same.acc]; rfl⟩, fun _ => rfl⟩
  | tMbaIncr1 | tMbaIncr2 | tMbaIncr3 | tMbaIncr4 | tMbaIncr5 | tMbaIncr6 | tMbaIncr7 | tMbaIncr8 | tMbaIncr9 | tMbaIncr10
  | tMbaIncr11 | tMbaIncr12 | tMbaIncr13 | tMbaIncr14 | tMbaIncr15 | tMbaIncr16 | tMbaIncr17 | tMbaIncr18 | tMbaIncr19
  | tMbaIncr20 | tMbaIncr21 | tMbaIncr22 | tMbaIncr23 | tMbaIncr24 | tMbaIncr25 | tMbaIncr26 | tMbaIncr27 | tMbaIncr28
  | tMbaIncr29 | tMbaIncr30 | tMbaIncr31 | tMbaIncr32 | tMbaIncr33 =>
    cases h
    exact ⟨_, _, by decide, readsStream_increment _, fun s => mbaIncrement_eq _ _ s⟩
  | tAcEscapeShort run lv =>
    cases h
    exact ⟨6, _, by decide, readsStream_takeFields (readsStream_escapeFinish run _ _) [6, 8], fun _ => rfl⟩
  | tAcEscapeLongPos run m | tAcEscapeLongNeg run m =>
    cases h
    exact ⟨6, _, by decide, readsStream_takeFields (readsStream_escapeFinish run _ _) [6, 8, 8], fun _ => rfl⟩
  | _ => cases h <;> exact ⟨_, _, by decide, readsStream_respond _, fun _ => rfl⟩

theorem runsOnStream_exec_codeword {i : Instr} {t : Table} (h : i.ctx = .vlc t) : RunsOnStream (GoesOn i) (exec i) := by
  obtain ⟨len, deliver, hlen, reads, exec_eq⟩ := exec_eq_codeword h
  simp only [funext exec_eq]
  exact runsOnStream_codeword hlen reads

/-- A row the look-up has found means what its instruction means by itself (log entry 8). -/
theorem runRow_eq_exec {i : Instr} {t : Table} (h : i.ctx = .vlc t) : runRow i = exec i := by
  cases i <;> cases h <;> rfl

/-- A row's instruction is a codeword, of `T_MBA` if and only if the row is. -/
def rowIsCodeword (t : Table) (e : Entry) : Bool :=
  match e with
  | .escape => decide (t ≠ .mba)
  | .row i =>
    match i.ctx with
    | .vlc t' => decide (t' = .mba ↔ t = .mba)
    | _ => false

theorem rowIsCodeword_of_mem {t : Table} {r : Bits × Entry} (h : r ∈ t.rows) : rowIsCodeword t r.2 = true := by
  have checked : (t.rows.all fun r => rowIsCodeword t r.2) = true := by cases t <;> decide +kernel
  exact List.all_eq_true.1 checked r h

theorem ctx_of_mem_rows {t : Table} {c : Bits} {i : Instr} (h : (c, .row i) ∈ t.rows) :
    ∃ t', i.ctx = .vlc t' ∧ (t' = .mba ↔ t = .mba) := by
  have codeword := rowIsCodeword_of_mem h
  unfold rowIsCodeword at codeword
  cases ctx : i.ctx with
  | vlc t' => exact ⟨t', rfl, of_decide_eq_true (by simpa only [ctx] using codeword)⟩
  | command | dcDiff | residual => simp [ctx] at codeword

/-- The rows after which a command goes on stand in `T_MBA` only. -/
theorem not_goesOn_of_ctx {i : Instr} {t : Table} (h : i.ctx = .vlc t) (ht : t ≠ .mba) : ¬ GoesOn i := by
  rintro (rfl | rfl) <;> exact ht (Ctx.vlc.inj h.symm)

theorem RunsOnStream.mono {p q : Prop} (hpq : p → q) {body : State → Outcome} (h : RunsOnStream p body) :
    RunsOnStream q body := by
  intro s running
  obtain ⟨g, ⟨p', a, e, reach, legal, ends⟩, runs⟩ := h s running
  refine ⟨g, ⟨p', a, e, reach, ?_, ends⟩, runs⟩
  cases e with
  | quiet => exact hpq legal
  | answered r => trivial
  | raised k => exact legal

/-! ### The commands (R88, R121) -/

theorem runsOnStream_vlcDecode {t : Table} (ht : t ≠ .mba) : RunsOnStream False (vlcDecode t) := by
  intro s running
  by_cases short : s.remaining < t.width
  · exact ⟨_, endsOnStream_raise (k := .unexpectedEndOfStream) (by decide) s, fun s' same =>
      vlcDecode_short t s' (same.remaining ▸ short)⟩
  have window (s' : State) (same : SameStream s s') :=
    same.unread ▸ vlcDecode_window t s' (same.remaining ▸ not_lt.1 short)
  cases found : lookup t (s.unread.take t.width) with
  | none =>
    exact ⟨_, endsOnStream_raise (k := .invalidVlcCode) (by decide) s, fun s' same => by rw [window s' same, found]⟩
  | some r =>
    obtain ⟨c, e⟩ := r
    obtain ⟨mem, begins⟩ := lookup_eq_some t _ c e found
    cases e with
    | escape =>
      have held : c.length ≤ s.remaining := begins.length_le.trans ((List.length_take_le' _ _).trans_eq (unread_length s))
      exact ⟨_, (readsStream_escapeBody (bitSkip c.length s) running).after_skip held, fun s' same => by
        rw [window s' same, found]⟩
    | row i =>
      obtain ⟨t', ctx, mba_iff⟩ := ctx_of_mem_rows mem
      have speaks : RunsOnStream False (exec i) :=
        (runsOnStream_exec_codeword ctx).mono (not_goesOn_of_ctx ctx (mt mba_iff.1 ht))
      obtain ⟨g, ends, runs⟩ := speaks s running
      exact ⟨g, ends, fun s' same => by rw [window s' same, found, ← runs s' same, ← runRow_eq_exec ctx]⟩

/-! One turn of the loop of `VLD.MBA`, by what stands at the cursor. -/

theorem mbaLoop_short {s : State} (h : s.remaining < 11) (turns : Nat) :
    mbaLoop (turns + 1) s = .next (raise .unexpectedEndOfStream s) := by
  have none_left : bitPeek Table.mba.width s = none := (bitPeek_eq_none 11 s).2 h
  simp only [mbaLoop, none_left]

theorem mbaLoop_unused {s : State} (h : 11 ≤ s.remaining) (found : lookup .mba (s.unread.take 11) = none) (turns : Nat) :
    mbaLoop (turns + 1) s = .next (raise .invalidVlcCode s) := by
  have window : bitPeek Table.mba.width s = some (s.unread.take 11) := bitPeek_of_le 11 s h
  simp only [mbaLoop, window, found]

theorem mbaLoop_row {s t : State} {c : Bits} {i : Instr} (h : 11 ≤ s.remaining)
    (found : lookup .mba (s.unread.take 11) = some (c, .row i)) (ran : exec i s = .next t) (turns : Nat) :
    (GoesOn i → mbaLoop (turns + 1) s = mbaLoop turns t) ∧ (¬ GoesOn i → mbaLoop (turns + 1) s = .next t) := by
  obtain ⟨_, ctx, -⟩ := ctx_of_mem_rows (lookup_eq_some _ _ _ _ found).1
  have window : bitPeek Table.mba.width s = some (s.unread.take 11) := bitPeek_of_le 11 s h
  simp only [mbaLoop, window, found, runRow_eq_exec ctx, ran]
  exact ⟨fun goesOn => if_pos goesOn, fun ends => if_neg ends⟩

theorem exec_stuffing {s : State} (running : s.err = false) (h : 11 ≤ s.remaining) :
    exec .tMbaStuffing s = .next (moved (s.pos + 11) s.acc s) :=
  codeword_running .mba 11 id s running h

theorem exec_escape {s : State} (running : s.err = false) (h : 11 ≤ s.remaining) :
    exec .tMbaEscape s = .next (moved (s.pos + 11) (s.acc + 33) s) :=
  codeword_running .mba 11 (fun t => { t with acc := t.acc + 33 }) s running h

/-- `VLD.MBA` (R121). -/
theorem runsOnStream_mbaLoop (turns : Nat) : RunsOnStream False (mbaLoop turns) := by
  induction turns with
  | zero =>
    exact fun s _ => ⟨_, endsOnStream_raise (k := .unexpectedEndOfStream) (by decide) s, fun _ _ => rfl⟩
  | succ turns ih =>
    intro s running
    by_cases short : s.remaining < 11
    · exact ⟨_, endsOnStream_raise (k := .unexpectedEndOfStream) (by decide) s, fun s' same =>
        mbaLoop_short (same.remaining ▸ short) turns⟩
    have room (s' : State) (same : SameStream s s') : 11 ≤ s'.remaining := same.remaining ▸ not_lt.1 short
    have go_on {i : Instr} (goesOn : GoesOn i) {c : Bits} (found : lookup .mba (s.unread.take 11) = some (c, .row i)) (a : Nat)
        (ran : ∀ s', SameStream s s' → exec i s' = .next (moved (s.pos + 11) a s')) :
        ∃ g, EndsOnStream False g s ∧ ∀ s', SameStream s s' → mbaLoop (turns + 1) s' = .next (g s') := by
      obtain ⟨g, ends, runs⟩ := ih (moved (s.pos + 11) a s) running
      refine ⟨_, ends.after_moved (reach_skip (not_lt.1 short)), fun s' same => ?_⟩
      rw [(mbaLoop_row (room s' same) (same.unread ▸ found) (ran s' same) turns).1 goesOn, runs _ (same.moved _ _)]
    cases found : lookup .mba (s.unread.take 11) with
    | none =>
      exact ⟨_, endsOnStream_raise (k := .invalidVlcCode) (by decide) s, fun s' same =>
        mbaLoop_unused (room s' same) (same.unread ▸ found) turns⟩
    | some r =>
      obtain ⟨c, e⟩ := r
      have mem := (lookup_eq_some _ _ c e found).1
      cases e with
      | escape => exact absurd (rowIsCodeword_of_mem mem) (by simp [rowIsCodeword])
      | row i =>
        obtain ⟨t', ctx, -⟩ := ctx_of_mem_rows mem
        by_cases goesOn : GoesOn i
        · obtain rfl | rfl := goesOn
          · exact go_on (.inl rfl) found s.acc fun s' same => by
              rw [exec_stuffing (same.err.trans running) (room s' same), same.pos, same.acc]
          · exact go_on (.inr rfl) found (s.acc + 33) fun s' same => by
              rw [exec_escape (same.err.trans running) (room s' same), same.pos, same.acc]
        · obtain ⟨g, ends, runs⟩ := (runsOnStream_exec_codeword ctx).mono goesOn s running
          exact ⟨g, ends, fun s' same =>
            (mbaLoop_row (room s' same) (same.unread ▸ found) (runs s' same) turns).2 goesOn⟩

/-! ### The VLD as a whole (40_vld_macroblock.md R120) -/

/-- Every DC differential field by itself is a field of the stream (log entry 20). -/
theorem exec_eq_field {i : Instr} {n : Nat} (h : i.ctx = .dcDiff n) :
    ∃ r, ∀ s, exec i s = field n (respond r) s := by
  cases i <;> cases h <;> exact ⟨_, fun _ => rfl⟩

theorem opcode_of_encode {i : Instr} {op : BitVec 8} {operands : BitVec 24} (h : encode i = command32 op operands) :
    opcodeOf (commandWord i) = op := by
  rw [Encoding.commandWord_of_encode h, Encoding.opcodeOf_word]

/-- Every command of the VLD is a body that reads the stream, in the frame of a command. -/
theorem exec_eq_vldCommand {i : Instr} (h : i.ctx = .command) (vld : isVld i = true) :
    ∃ body, RunsOnStream False body ∧ ∀ s, exec i s = command (opcodeOf (commandWord i)) body s := by
  have of_body {op : BitVec 8} {operands : BitVec 24} {body : State → Outcome} (henc : encode i = command32 op operands)
      (runs : RunsOnStream False body) (hexec : ∀ s, exec i s = command op body s) :
      ∃ body, RunsOnStream False body ∧ ∀ s, exec i s = command (opcodeOf (commandWord i)) body s :=
    ⟨body, runs, by rwa [opcode_of_encode henc]⟩
  cases i with
  | vldMba =>
    refine of_body rfl (body := fun s => mbaLoop (s.bs.length + 1) s) (fun s running => ?_) fun _ => rfl
    obtain ⟨g, ends, runs⟩ := runsOnStream_mbaLoop (s.bs.length + 1) s running
    exact ⟨g, ends, fun s' same => (congrArg (fun bs => mbaLoop (bs.length + 1) s') same.bs).trans (runs s' same)⟩
  | vldDcd size => exact of_body rfl (runsOnStream_dcdBody size.toNat) fun _ => rfl
  | vldMbtI | vldMbtP | vldMbtB | vldMbtD | vldMv | vldCbp | vldDcl | vldDcc | vldAcf | vldAcn =>
    exact of_body rfl (runsOnStream_vlcDecode (by decide)) fun _ => rfl
  | _ => cases h <;> cases vld

/-- What a VLD instruction can do to a state that holds the stream of `s`: it is refused, or it begins (a command) or not (a codeword or
field), moves on and ends. -/
inductive VldUpdate (s : State) : (State → State) → Prop where
  | refused (stopped : s.err = true) : VldUpdate s refuse
  | ran {begin : State → State} {p a : Nat} {e : Finish} (running : s.err = false)
      (begins : begin = id ∨ ∃ op, begin = beginCommand op) (reach : Reach s p) (legal : e.Legal True) :
      VldUpdate s fun s' => e.apply (moved p a (begin s'))

theorem exec_vldUpdate {i : Instr} (h : isVld i = true) (s : State) :
    ∃ upd, VldUpdate s upd ∧ ∀ s', SameStream s s' → exec i s' = .next (upd s') := by
  have by_itself (refuses : ∀ s, s.err = true → exec i s = .next (refuse s)) {q : Prop} (runs : RunsOnStream q (exec i)) :
      ∃ upd, VldUpdate s upd ∧ ∀ s', SameStream s s' → exec i s' = .next (upd s') := by
    cases err : s.err with
    | true => exact ⟨_, .refused err, fun s' same => refuses s' (same.err.trans err)⟩
    | false =>
      obtain ⟨g, ⟨p, a, e, reach, legal, ends⟩, runs⟩ := (runs.mono fun _ => trivial : RunsOnStream True (exec i)) s err
      exact ⟨_, .ran err (.inl rfl) reach legal, fun s' same => by rw [runs s' same, ends s' same]; rfl⟩
  cases ctx : i.ctx with
  | residual n => simp [isVld, ctx] at h
  | vlc t =>
    obtain ⟨len, deliver, -, -, exec_eq⟩ := exec_eq_codeword ctx
    refine by_itself (fun s stopped => ?_) (runsOnStream_exec_codeword ctx)
    simp [exec_eq, codeword, codewordThen, stopped]
  | dcDiff n =>
    obtain ⟨r, exec_eq⟩ := exec_eq_field ctx
    refine by_itself (q := False) (fun s stopped => by simp [exec_eq, field, stopped]) ?_
    simp only [funext exec_eq]
    exact runsOnStream_field (readsStream_respond r)
  | command =>
    obtain ⟨body, runs, exec_eq⟩ := exec_eq_vldCommand ctx h
    cases err : s.err with
    | true => exact ⟨_, .refused err, fun s' same => by rw [exec_eq, command_refused _ _ _ (same.err.trans err)]⟩
    | false =>
      let begin := beginCommand (opcodeOf (commandWord i))
      obtain ⟨g, ⟨p, a, e, reach, legal, ends⟩, runs⟩ :=
        (runs.mono fun impossible => impossible.elim : RunsOnStream True body) (begin s) err
      refine ⟨_, .ran (begin := begin) (a := a) err (.inr ⟨_, rfl⟩) reach legal, fun s' same => ?_⟩
      have begun : SameStream (begin s) (begin s') := ⟨same.bs, same.pos, rfl, same.err⟩
      rw [exec_eq, command_running _ _ _ (same.err.trans err), runs _ begun, ends _ begun]

/-- The state with the registers and the coefficients the VLD has no business with replaced. -/
def withUnits (f b : Mvr) (c : Memory) (s : State) : State := { s with mvrF := f, mvrB := b, cb := c }

theorem sameStream_withUnits (f b : Mvr) (c : Memory) (s : State) : SameStream s (withUnits f b c s) := ⟨rfl, rfl, rfl, rfl⟩

theorem Finish.apply_withUnits (e : Finish) (f b : Mvr) (c : Memory) (s : State) :
    e.apply (withUnits f b c s) = withUnits f b c (e.apply s) := by
  cases e with
  | quiet => rfl
  | answered r => rfl
  | raised k =>
    cases err : s.err <;> simp [Finish.apply, raise, recordError, respond, withUnits, err]

theorem VldUpdate.withUnits {s : State} {upd : State → State} (h : VldUpdate s upd) (f b : Mvr) (c : Memory) :
    upd (withUnits f b c s) = StreamBodies.withUnits f b c (upd s) := by
  cases h with
  | refused => rfl
  | @ran _ p a e running begins reach legal =>
    obtain rfl | ⟨op, rfl⟩ := begins
    · exact e.apply_withUnits f b c (moved p a s)
    · exact e.apply_withUnits f b c (moved p a (beginCommand op s))

/-- Settles O32: the update is chosen by the stream and passes by what is replaced. -/
theorem vldReadsNoMvrAndNoBuffer : Obligations.VldReadsNoMvrAndNoBuffer := by
  intro i s t f b c vld ran
  obtain ⟨upd, update, exec_eq⟩ := exec_vldUpdate vld s
  obtain rfl : upd s = t := Host.Outcome.next.inj ((exec_eq s (sameStream_refl s)).symm.trans ran)
  exact (exec_eq _ (sameStream_withUnits f b c s)).trans (congrArg _ (update.withUnits f b c))

/-- What a VLD instruction leaves alone. -/
structure VldFrame (s t : State) : Prop where
  bs : t.bs = s.bs
  port : t.port = s.port
  reach : Reach s t.pos
  mvrF : t.mvrF = s.mvrF
  mvrB : t.mvrB = s.mvrB
  cb : t.cb = s.cb
  record : t.err = s.err → t.ecode = s.ecode ∧ t.eop = s.eop ∧ t.epos = s.epos

/-- An ending touches the responses and, on an error, the error record. -/
theorem VldFrame.finish {s u : State} (running : s.err = false) (h : VldFrame s u) (e : Finish) : VldFrame s (e.apply u) := by
  cases e with
  | quiet => exact h
  | answered r => exact ⟨h.bs, h.port, h.reach, h.mvrF, h.mvrB, h.cb, h.record⟩
  | raised k =>
    exact ⟨(raise_bs k u).trans h.bs, (raise_port k u).trans h.port, (raise_pos k u).symm ▸ h.reach, (raise_mvrF k u).trans h.mvrF,
      (raise_mvrB k u).trans h.mvrB, (raise_cb k u).trans h.cb, fun unchanged => by simp [Finish.apply, running] at unchanged⟩

theorem VldUpdate.frame {s : State} {upd : State → State} (h : VldUpdate s upd) : VldFrame s (upd s) := by
  cases h with
  | refused => exact ⟨rfl, rfl, reach_self s, rfl, rfl, rfl, fun _ => ⟨rfl, rfl, rfl⟩⟩
  | ran running begins reach legal =>
    refine VldFrame.finish running ?_ _
    obtain rfl | ⟨op, rfl⟩ := begins <;> exact ⟨rfl, rfl, reach, rfl, rfl, rfl, fun _ => ⟨rfl, rfl, rfl⟩⟩

/-- Settles O31. -/
theorem vldLeavesMvrAndBufferAlone : Obligations.VldLeavesMvrAndBufferAlone := by
  intro i s t vld ran
  obtain ⟨upd, update, exec_eq⟩ := exec_vldUpdate vld s
  obtain rfl : upd s = t := Host.Outcome.next.inj ((exec_eq s (sameStream_refl s)).symm.trans ran)
  have frame := update.frame
  exact ⟨frame.mvrF, frame.mvrB, frame.cb, frame.bs, frame.port, frame.reach.1, frame.record⟩

end Sys2Proof.StreamBodies

/-! ## How an instruction ends, and what every step keeps (10_state.md R22, 42_mvr.md R168, 60_exceptions.md R216 to R219)

In the error state an instruction is refused. Outside it, it ends in one of three ways (`Ended`): quietly, with an answer, or by raising an
error; before that it has kept the invariant and the error record. The statements about errors, responses and invariants go through
that one inversion. -/

namespace Sys2Proof.Endings

open Sys2Proof.Machine Sys2Proof.StreamBodies

/-! ### What an instruction keeps until it ends -/

/-- From `s` to `u` the stream, the port, the responses and the error record stay, the cursor moves on inside the stream, and what the
invariant asks of the buffer and the registers is kept. -/
structure Keeps (s u : State) : Prop where
  bs : u.bs = s.bs
  port : u.port = s.port
  responses : u.responses = s.responses
  err : u.err = s.err
  ecode : u.ecode = s.ecode
  eop : u.eop = s.eop
  epos : u.epos = s.epos
  reach : Reach s u.pos
  buffer : s.cb.wf = true → u.cb.wf = true
  forward : s.mvrF.Wf → u.mvrF.Wf
  backward : s.mvrB.Wf → u.mvrB.Wf

theorem keeps_refl (s : State) : Keeps s s := ⟨rfl, rfl, rfl, rfl, rfl, rfl, rfl, reach_self s, id, id, id⟩

theorem keeps_moved {s : State} {p : Nat} (reach : Reach s p) (a : Nat) : Keeps s (moved p a s) :=
  ⟨rfl, rfl, rfl, rfl, rfl, rfl, rfl, reach, id, id, id⟩

theorem keeps_beginCommand (op : BitVec 8) (s : State) : Keeps s (beginCommand op s) :=
  ⟨rfl, rfl, rfl, rfl, rfl, rfl, rfl, reach_self s, id, id, id⟩

theorem keeps_setMvr {s : State} {d : Dir} {m : Mvr} (h : (s.mvr d).Wf → m.Wf) : Keeps s (s.setMvr d m) where
  bs := setMvr_bs s d m
  port := setMvr_port s d m
  responses := setMvr_responses s d m
  err := setMvr_err s d m
  ecode := setMvr_ecode s d m
  eop := setMvr_eop s d m
  epos := setMvr_epos s d m
  reach := (setMvr_pos s d m).symm ▸ reach_self s
  buffer wf := (setMvr_cb s d m).symm ▸ wf
  forward wf := by cases d; exacts [h wf, wf]
  backward wf := by cases d; exacts [wf, h wf]

theorem keeps_setCb {s : State} {cb : Memory} (h : s.cb.wf = true → cb.wf = true) : Keeps s { s with cb := cb } :=
  ⟨rfl, rfl, rfl, rfl, rfl, rfl, rfl, reach_self s, h, id, id⟩

/-! ### How an instruction ends -/

/-- How an instruction `i` that runs in the state `s` ends. Only the VLD moves the cursor before it raises an error. -/
inductive Ended (i : Instr) (s : State) : State → Prop where
  | quiet {u : State} (goesOn : GoesOn i) (kept : Keeps s u) : Ended i s u
  | answered {u : State} (r : Response) (kept : Keeps s u) : Ended i s (respond r u)
  | raised {k : ErrorKind} {p a : Nat} (block : k ≠ .missingReference) (reach : Reach s p)
      (still : isVld i = false → p = s.pos) : Ended i s (raise k (moved p a s))

theorem ended_raise {i : Instr} {s : State} {k : ErrorKind} (block : k ≠ .missingReference) : Ended i s (raise k s) :=
  .raised (p := s.pos) (a := s.acc) block (reach_self s) fun _ => rfl

theorem ended_of_endsOnStream {i : Instr} (vld : isVld i = true) {s : State} {g : State → State}
    (h : EndsOnStream (GoesOn i) g s) : Ended i s (g s) := by
  obtain ⟨p, a, e, reach, legal, ends⟩ := h
  rw [ends s (sameStream_refl s)]
  cases e with
  | quiet => exact .quiet legal (keeps_moved reach a)
  | answered r => exact .answered r (keeps_moved reach a)
  | raised k => exact .raised legal reach fun notVld => by simp [vld] at notVld

theorem ended_of_runsOnStream {i : Instr} (vld : isVld i = true) {body : State → Outcome} (h : RunsOnStream (GoesOn i) body)
    {s t : State} (running : s.err = false) (ran : body s = .next t) : Ended i s t := by
  obtain ⟨g, ends, runs⟩ := h s running
  obtain rfl : g s = t := Host.Outcome.next.inj ((runs s (sameStream_refl s)).symm.trans ran)
  exact ended_of_endsOnStream vld ends

/-! ### The bodies of the MVR and of the IDCT unit -/

/-- The body of the instruction `i` ends so wherever it runs and answers a next state. -/
def BodyEnds (i : Instr) (body : State → Outcome) : Prop := ∀ s t, s.err = false → body s = .next t → Ended i s t

section
variable {i : Instr}

theorem bodyEnds_mvrSetup (d : Dir) (fullPel : Bool) (fCode : BitVec 3) : BodyEnds i (mvrSetup d fullPel fCode) := by
  intro s t _ ran
  by_cases illegal : fCode = 0
  · obtain rfl := Host.Outcome.next.inj (ran.symm.trans (illegal ▸ IllegalFCode.mvrSetup_zero d fullPel s))
    exact ended_raise (by decide)
  · obtain rfl := Host.Outcome.next.inj (ran.symm.trans (MotionVectors.mvrSetup_of_ne_zero d fullPel illegal s))
    exact .answered _ (keeps_setMvr fun _ => MotionVectors.wf_setUpRegisters fullPel illegal)

theorem bodyEnds_mvrReset (d : Dir) : BodyEnds i (mvrReset d) := by
  intro s t _ ran
  obtain rfl := Host.Outcome.next.inj ran
  refine .answered _ (keeps_setMvr fun wf => ?_)
  have zero_range (valid : (s.mvr d).valid = true) : MotionVectors.InRange (s.mvr d) 0 := by
    have := MotionVectors.scale_bounds wf valid
    constructor <;> omega
  exact ⟨wf.rSize_le, wf.scale, wf.scale_range, zero_range, zero_range⟩

theorem bodyEnds_mvrCalc (d : Dir) (codeH rH codeV rV : BitVec 6) : BodyEnds i (mvrCalc d codeH rH codeV rV) := by
  intro s t _ ran
  obtain ⟨nh, nv, calculates⟩ | raised := MotionVectors.mvrCalc_cases d codeH rH codeV rV s
  · obtain rfl := Host.Outcome.next.inj (ran.symm.trans (MotionVectors.mvrCalc_of_calculates calculates))
    exact .answered _ (keeps_setMvr calculates.wf)
  · obtain rfl := Host.Outcome.next.inj (ran.symm.trans raised)
    exact ended_raise (by decide)

theorem bodyEnds_cbRead (idx : BitVec 6) : BodyEnds i (cbReadBody idx) := by
  intro s t _ ran
  unfold cbReadBody at ran
  split at ran
  · cases ran
  · obtain rfl := Host.Outcome.next.inj ran
    exact .answered _ (keeps_refl s)

theorem bodyEnds_idct : BodyEnds i idctBody := by
  intro s t _ ran
  unfold idctBody at ran
  split at ran
  · cases ran
  · split at ran
    · obtain rfl := Host.Outcome.next.inj ran
      exact .answered _ (keeps_setCb fun _ => wf_memoryOf _)
    · obtain rfl := Host.Outcome.next.inj ran
      exact ended_raise (by decide)

end

/-! ### Every instruction -/

/-- Every command but `STATUS` is a body in the frame of a command. -/
theorem exec_eq_command {i : Instr} (h : i.ctx = .command) (notStatus : i ≠ .status) :
    ∃ body, BodyEnds i body ∧ ∀ s, exec i s = command (opcodeOf (commandWord i)) body s := by
  cases vld : isVld i with
  | true =>
    obtain ⟨body, runs, exec_eq⟩ := exec_eq_vldCommand h vld
    exact ⟨body, fun s t running ran =>
      ended_of_runsOnStream vld (runs.mono fun impossible => impossible.elim) running ran, exec_eq⟩
  | false =>
    have of_body {op : BitVec 8} {operands : BitVec 24} {body : State → Outcome} (henc : encode i = command32 op operands)
        (ends : BodyEnds i body) (hexec : ∀ s, exec i s = command op body s) :
        ∃ body, BodyEnds i body ∧ ∀ s, exec i s = command (opcodeOf (commandWord i)) body s :=
      ⟨body, ends, by rwa [opcode_of_encode henc]⟩
    cases i with
    | nop =>
      refine of_body rfl (body := fun s => .next (respond .ok s)) (fun s t _ ran => ?_) fun _ => rfl
      obtain rfl := Host.Outcome.next.inj ran
      exact .answered _ (keeps_refl s)
    | mvrSetupF fullPel fCode => exact of_body rfl (bodyEnds_mvrSetup .F fullPel fCode) fun _ => rfl
    | mvrSetupB fullPel fCode => exact of_body rfl (bodyEnds_mvrSetup .B fullPel fCode) fun _ => rfl
    | mvrResetF => exact of_body rfl (bodyEnds_mvrReset .F) fun _ => rfl
    | mvrResetB => exact of_body rfl (bodyEnds_mvrReset .B) fun _ => rfl
    | mvrCalcF codeH rH codeV rV => exact of_body rfl (bodyEnds_mvrCalc .F codeH rH codeV rV) fun _ => rfl
    | mvrCalcB codeH rH codeV rV => exact of_body rfl (bodyEnds_mvrCalc .B codeH rH codeV rV) fun _ => rfl
    | cbWr idx value =>
      refine of_body rfl (body := fun s => .next (respond .ok { s with cb := s.cb.write idx.toNat (value.signExtend Config.cbW) }))
        (fun s t _ ran => ?_) fun _ => rfl
      obtain rfl := Host.Outcome.next.inj ran
      exact .answered _ (keeps_setCb (Memory.wf_write s.cb idx _))
    | cbRd idx => exact of_body rfl (bodyEnds_cbRead idx) fun _ => rfl
    | idctBlk => exact of_body rfl bodyEnds_idct fun _ => rfl
    | status => exact absurd rfl notStatus
    | _ => cases h <;> cases vld

/-- Every motion residual field by itself is the host's read of it (log entry 19). -/
theorem exec_eq_residualRow {i : Instr} {n : Nat} (h : i.ctx = .residual n) : ∃ r, ∀ s, exec i s = residualRow n r s := by
  cases i <;> cases h <;> exact ⟨_, fun _ => rfl⟩

/-- Settles O53. -/
theorem errorStateRefusesEverythingButStatus : Obligations.ErrorStateRefusesEverythingButStatus := by
  intro i s notStatus notResidual stopped
  change exec i s = .next (refuse s)
  cases ctx : i.ctx with
  | command =>
    obtain ⟨body, -, exec_eq⟩ := exec_eq_command ctx notStatus
    rw [exec_eq, command_refused _ _ s stopped]
  | vlc t =>
    obtain ⟨len, deliver, -, -, exec_eq⟩ := exec_eq_codeword ctx
    simp [exec_eq, codeword, codewordThen, stopped]
  | dcDiff n =>
    obtain ⟨r, exec_eq⟩ := exec_eq_field ctx
    simp [exec_eq, field, stopped]
  | residual n => exact absurd ctx (notResidual n)

/-- All an instruction can do: `STATUS` and the host's read of a residual field answer in every state; the others are refused in the error
state (60_exceptions.md R216), and else end, a command after it has begun. -/
inductive Executed (i : Instr) (s : State) : State → Prop where
  | replied {u : State} (r : Response) (always : i = .status ∨ ∃ n, i.ctx = .residual n) (kept : Keeps s u) :
      Executed i s (respond r u)
  | refused (stopped : s.err = true) : Executed i s (refuse s)
  | command {t : State} (running : s.err = false) (ctx : i.ctx = .command)
      (ended : Ended i (beginCommand (opcodeOf (commandWord i)) s) t) : Executed i s t
  | row {t : State} (running : s.err = false) (ctx : i.ctx ≠ .command) (ended : Ended i s t) : Executed i s t

theorem executed_residual {i : Instr} {n : Nat} (h : i.ctx = .residual n) {s t : State} (ran : exec i s = .next t) :
    Executed i s t := by
  obtain ⟨r, exec_eq⟩ := exec_eq_residualRow h
  rw [exec_eq, residualRow] at ran
  split at ran
  · obtain rfl := Host.Outcome.next.inj ran
    exact .replied _ (.inr ⟨n, h⟩) (keeps_refl s)
  next enough =>
    obtain rfl := Host.Outcome.next.inj ran
    exact .replied _ (.inr ⟨n, h⟩) (keeps_moved (reach_skip (not_lt.1 enough)) s.acc)

/-- An instruction outside the error state, but for `STATUS` and the host's reads. -/
theorem executed_running {i : Instr} {s t : State} (running : s.err = false) (notStatus : i ≠ .status)
    (notResidual : ∀ n, i.ctx ≠ .residual n) (ran : exec i s = .next t) : Executed i s t := by
  cases ctx : i.ctx with
  | command =>
    obtain ⟨body, ends, exec_eq⟩ := exec_eq_command ctx notStatus
    rw [exec_eq, command_running _ _ s running] at ran
    exact .command running ctx (ends _ _ running ran)
  | vlc t' =>
    have vld : isVld i = true := by simp [isVld, ctx]
    exact .row running (by simp [ctx]) (ended_of_runsOnStream vld (runsOnStream_exec_codeword ctx) running ran)
  | dcDiff n =>
    have vld : isVld i = true := by simp [isVld, ctx]
    obtain ⟨r, exec_eq⟩ := exec_eq_field ctx
    rw [exec_eq] at ran
    exact .row running (by simp [ctx]) (ended_of_runsOnStream vld (runsOnStream_field (readsStream_respond r)) running ran)
  | residual n => exact absurd ctx (notResidual n)

theorem executed_of_exec {i : Instr} {s t : State} (ran : exec i s = .next t) : Executed i s t := by
  by_cases status : i = .status
  · subst status
    obtain rfl := Host.Outcome.next.inj ran
    exact .replied _ (.inl rfl) (keeps_refl s)
  by_cases residual : ∃ n, i.ctx = .residual n
  · obtain ⟨n, ctx⟩ := residual
    exact executed_residual ctx ran
  have notResidual := not_exists.1 residual
  cases err : s.err with
  | true =>
    obtain rfl := Host.Outcome.next.inj (ran.symm.trans (errorStateRefusesEverythingButStatus i s status notResidual err))
    exact .refused err
  | false => exact executed_running err status notResidual ran

/-! ### Commands: responses and the first error -/

/-- Settles O56: a command never ends quietly, and each other ending adds one record. -/
theorem everyCommandGivesOneResponse : Obligations.EveryCommandGivesOneResponse := by
  intro i s t ctx ran
  cases executed_of_exec ran with
  | replied r always kept => exact ⟨r, by rw [respond_responses, kept.responses]⟩
  | refused stopped => exact ⟨_, rfl⟩
  | row running notCommand ended => exact absurd ctx notCommand
  | command running _ ended =>
    cases ended with
    | quiet goesOn kept => obtain rfl | rfl := goesOn <;> cases ctx
    | answered r kept => exact ⟨r, by rw [respond_responses, kept.responses]; rfl⟩
    | raised block reach still => exact ⟨_, raise_responses _ _⟩

/-- The codes of the errors the block raises (60_exceptions.md R210, R214). -/
theorem code_of_block {k : ErrorKind} (block : k ≠ .missingReference) : k.code = 1 ∨ k.code = 2 ∨ k.code = 4 ∨ k.code = 5 := by
  cases k with
  | missingReference => exact absurd rfl block
  | _ => decide

/-- Settles O54: only the ending that raises sets `ERR`, and up to it the command has moved the cursor at most. -/
theorem firstErrorIsRecordedPrecisely : Obligations.FirstErrorIsRecordedPrecisely := by
  intro i s t ctx running ran failed
  have not_kept {u : State} (kept : Keeps s u) (failed : u.err = true) : False := by
    rw [kept.err, running] at failed
    cases failed
  cases executed_of_exec ran with
  | replied r always kept => exact (not_kept kept failed).elim
  | refused stopped => simp [running] at stopped
  | row _ notCommand ended => exact absurd ctx notCommand
  | command _ _ ended =>
    cases ended with
    | quiet goesOn kept => obtain rfl | rfl := goesOn <;> cases ctx
    | answered r kept =>
      have begun_err := kept.err
      rw [respond_err, begun_err, beginCommand_err, running] at failed
      cases failed
    | @raised k p a block reach still =>
      rw [raise_of_not_err _ (moved p a (beginCommand _ s)) running]
      exact ⟨code_of_block block, rfl, rfl, rfl, rfl, rfl, rfl, still⟩

/-! ### The invariant -/

theorem inv_of_keeps {s u : State} (inv : s.Inv) (kept : Keeps s u) : u.Inv where
  cursor := by
    have := inv.cursor
    obtain ⟨-, inside⟩ := kept.reach
    rw [kept.bs]; omega
  buffer := kept.buffer inv.buffer
  forward := kept.forward inv.forward
  backward := kept.backward inv.backward
  errors :=
    { clear := by rw [kept.err, kept.ecode, kept.eop, kept.epos]; exact inv.errors.clear
      kind := by rw [kept.err, kept.ecode]; exact inv.errors.kind
      position := by rw [kept.epos]; exact inv.errors.position.trans kept.reach.1 }

theorem inv_respond {s : State} (inv : s.Inv) (r : Response) : (respond r s).Inv :=
  ⟨inv.cursor, inv.buffer, inv.forward, inv.backward, ⟨inv.errors.clear, inv.errors.kind, inv.errors.position⟩⟩

theorem inv_raise {s : State} (inv : s.Inv) {k : ErrorKind} (block : k ≠ .missingReference) : (raise k s).Inv where
  cursor := by simpa using inv.cursor
  buffer := by simpa using inv.buffer
  forward := by simpa using inv.forward
  backward := by simpa using inv.backward
  errors :=
    { clear := by simp
      kind := fun _ => by
        cases err : s.err with
        | true => simpa [err] using inv.errors.kind err
        | false => simpa [err] using code_of_block block
      position := by
        cases err : s.err with
        | true => simpa [err] using inv.errors.position
        | false => simp [err] }

theorem Ended.inv {i : Instr} {s t : State} (h : Ended i s t) (inv : s.Inv) : t.Inv := by
  cases h with
  | quiet _ kept => exact inv_of_keeps inv kept
  | answered r kept => exact inv_respond (inv_of_keeps inv kept) r
  | raised block reach _ => exact inv_raise (inv_of_keeps inv (keeps_moved reach _)) block

/-- Settles O58. -/
theorem everyInstructionKeepsTheInvariant : Obligations.EveryInstructionKeepsTheInvariant := by
  intro i s t inv ran
  cases executed_of_exec ran with
  | replied r _ kept => exact inv_respond (inv_of_keeps inv kept) r
  | refused _ => exact inv_respond inv _
  | command _ _ ended => exact ended.inv (inv_of_keeps inv (keeps_beginCommand _ s))
  | row _ _ ended => exact ended.inv inv

theorem Ended.reach {i : Instr} {s t : State} (h : Ended i s t) : t.bs = s.bs ∧ Reach s t.pos := by
  cases h with
  | quiet _ kept => exact ⟨kept.bs, kept.reach⟩
  | answered r kept => exact ⟨kept.bs, kept.reach⟩
  | raised _ reach _ => exact ⟨raise_bs _ _, by rw [raise_pos]; exact reach⟩

/-- An instruction moves the cursor on inside the stream and does not write the stream. -/
theorem reach_of_exec {i : Instr} {s t : State} (ran : exec i s = .next t) : t.bs = s.bs ∧ Reach s t.pos := by
  cases executed_of_exec ran with
  | replied r _ kept => exact ⟨kept.bs, kept.reach⟩
  | refused _ => exact ⟨rfl, reach_self s⟩
  | command _ _ ended => exact ended.reach
  | row _ _ ended => exact ended.reach

/-! ### Steps (20_memory.md R66) -/

/-- Only commands stand in the opcode map (R82). -/
theorem ctx_of_decodeCommand {w : Word} {i : Instr} (h : decodeCommand w = .ok i) : i.ctx = .command := by
  unfold decodeCommand at h
  split at h
  case h_3 => split at h <;> cases h <;> rfl
  all_goals cases h <;> rfl

/-- The state with the host's next action taken. -/
def taken (rest : List HostAction) (s : State) : State := { s with port := rest }

@[simp] theorem taken_err (rest : List HostAction) (s : State) : (taken rest s).err = s.err := rfl

theorem step_idle {s : State} (port : s.port = []) : step s = .next s := by
  simp only [step, fetch, port]

section
variable {s : State} {rest : List HostAction}

theorem step_command {w : Word} {i : Instr} (port : s.port = .command w :: rest) (decoded : decodeCommand w = .ok i) :
    step s = exec i (taken rest s) := by
  simp only [step, fetch, port, fits_posW, if_true, decoded]; rfl

theorem step_illegal {w : Word} {r : Reject} (port : s.port = .command w :: rest) (rejected : decodeCommand w = .error r) :
    step s = illegalCommand w (taken rest s) := by
  simp only [step, fetch, port, fits_posW, if_true, rejected]; rfl

theorem step_reset {a : HostAction} (isReset : a = .reset ∨ ∃ w, a = .resetDuring w) (port : s.port = a :: rest) :
    step s = .next (resetEvent (taken rest s)) := by
  obtain rfl | ⟨w, rfl⟩ := isReset <;> simp only [step, fetch, port, fits_posW, if_true] <;> rfl

theorem step_bitPeek {n : Nat} (port : s.port = .bitPeek n :: rest) : step s = hostPeek n (taken rest s) := by
  simp only [step, fetch, port, fits_posW, if_true]; rfl

theorem step_bitRead {n : Nat} (port : s.port = .bitRead n :: rest) : step s = hostRead n (taken rest s) := by
  simp only [step, fetch, port, fits_posW, if_true]; rfl

theorem step_bitReadS {n : Nat} (port : s.port = .bitReadS n :: rest) : step s = hostReadS n (taken rest s) := by
  simp only [step, fetch, port, fits_posW, if_true]; rfl

end

/-! ### The host's reads (20_memory.md R52 to R55) -/

theorem inPeekContract_outside {n : Nat} (h : n = 0 ∨ 32 < n) (answer : State) :
    inPeekContract n answer = .refused (.peekWidth n) := if_pos h

theorem inPeekContract_inside {n : Nat} (lo : 1 ≤ n) (hi : n ≤ 32) (answer : State) : inPeekContract n answer = .next answer :=
  if_neg fun h => by simp only [Config.peekMax] at h; omega

theorem eq_of_inPeekContract {n : Nat} {answer t : State} (h : inPeekContract n answer = .next t) : answer = t := by
  unfold inPeekContract at h
  split at h
  · cases h
  · exact Host.Outcome.next.inj h

/-- What the host's three reads can answer: the end of the stream, or a value with the bits consumed or not. -/
inductive HostReads (s : State) : State → Prop where
  | answered {n : Nat} (r : Response) (enough : n ≤ s.remaining) : HostReads s (respond r (bitSkip n s))

theorem hostReads_unmoved (r : Response) (s : State) : HostReads s (respond r s) := .answered (n := 0) r (Nat.zero_le _)

theorem hostReads_of_hostPeek {n : Nat} {s t : State} (h : hostPeek n s = .next t) : HostReads s t := by
  obtain rfl := eq_of_inPeekContract h
  split
  · exact hostReads_unmoved _ s
  · exact hostReads_unmoved _ s

theorem hostReads_of_hostRead {n : Nat} {s t : State} (h : hostRead n s = .next t) : HostReads s t := by
  obtain rfl := eq_of_inPeekContract h
  obtain ⟨-, read⟩ | ⟨enough, read⟩ := bitRead_cases n s
  · rw [read]; exact hostReads_unmoved _ s
  · rw [read]; exact .answered _ enough

theorem hostReads_of_hostReadS {n : Nat} {s t : State} (h : hostReadS n s = .next t) : HostReads s t := by
  obtain rfl := eq_of_inPeekContract h
  obtain ⟨-, read⟩ | ⟨enough, read⟩ := bitRead_cases n s
  · rw [bitReadS, read]; exact hostReads_unmoved _ s
  · rw [bitReadS, read]; exact .answered _ enough

/-! ### All a step can do -/

/-- What a step answers, by the host's next action. -/
inductive Stepped (s : State) : State → Prop where
  | idle : Stepped s s
  | command {i : Instr} {rest : List HostAction} {t : State} (ctx : i.ctx = .command) (ran : exec i (taken rest s) = .next t) :
      Stepped s t
  | illegal (w : Word) {rest : List HostAction} {t : State} (ran : illegalCommand w (taken rest s) = .next t) : Stepped s t
  | reset {a : HostAction} {rest : List HostAction} (isReset : a = .reset ∨ ∃ w, a = .resetDuring w) (port : s.port = a :: rest) :
      Stepped s (resetEvent (taken rest s))
  | host {rest : List HostAction} {t : State} (reads : HostReads (taken rest s) t) : Stepped s t

theorem stepped_of_step {s t : State} (h : step s = .next t) : Stepped s t := by
  cases port : s.port with
  | nil =>
    obtain rfl := Host.Outcome.next.inj ((step_idle port).symm.trans h)
    exact .idle
  | cons a rest =>
    cases a with
    | command w =>
      cases decoded : decodeCommand w with
      | ok i => exact .command (ctx_of_decodeCommand decoded) ((step_command port decoded).symm.trans h)
      | error r => exact .illegal w ((step_illegal port decoded).symm.trans h)
    | reset =>
      obtain rfl := Host.Outcome.next.inj ((step_reset (.inl rfl) port).symm.trans h)
      exact .reset (.inl rfl) port
    | resetDuring w =>
      obtain rfl := Host.Outcome.next.inj ((step_reset (.inr ⟨w, rfl⟩) port).symm.trans h)
      exact .reset (.inr ⟨w, rfl⟩) port
    | bitPeek n => exact .host (hostReads_of_hostPeek ((step_bitPeek port).symm.trans h))
    | bitRead n => exact .host (hostReads_of_hostRead ((step_bitRead port).symm.trans h))
    | bitReadS n => exact .host (hostReads_of_hostReadS ((step_bitReadS port).symm.trans h))
    | isByteAligned =>
      rw [step, Alignment.fetch_of_isByteAligned port] at h
      obtain rfl := Host.Outcome.next.inj h
      exact .host (hostReads_unmoved (.hostAligned (isByteAligned s)) (taken rest s))

/-- A reserved word is refused or raises `ProtocolError` before any bit is touched. -/
theorem illegalCommand_eq (w : Word) (s : State) :
    illegalCommand w s = .next (if s.err then refuse s else raise .protocolError (beginCommand (opcodeOf w) s)) := by
  cases err : s.err with
  | true => exact command_refused _ _ s err
  | false => exact command_running _ _ s err

/-! ### What every step keeps -/

theorem inv_taken {s : State} (inv : s.Inv) (rest : List HostAction) : (taken rest s).Inv :=
  ⟨inv.cursor, inv.buffer, inv.forward, inv.backward, ⟨inv.errors.clear, inv.errors.kind, inv.errors.position⟩⟩

theorem HostReads.inv {s t : State} (h : HostReads s t) (inv : s.Inv) : t.Inv := by
  cases h with
  | answered r enough => exact inv_respond (inv_of_keeps inv (keeps_moved (reach_skip enough) s.acc)) r

/-- A direction that is not set up is asked nothing. -/
theorem wf_of_not_valid {m : Mvr} (h : m.valid = false) : m.Wf := by
  constructor <;> simp [h]

theorem inv_resetEvent {s : State} (cursor : s.pos ≤ s.bs.length) : (resetEvent s).Inv :=
  ⟨cursor, rfl, wf_of_not_valid rfl, wf_of_not_valid rfl, ⟨fun _ => ⟨rfl, rfl, rfl⟩, fun failed => by simp at failed, Nat.zero_le _⟩⟩

/-- Settles O59: the reset state is a reset event in itself. -/
theorem resetSatisfiesTheInvariant : Obligations.ResetSatisfiesTheInvariant :=
  ⟨inv_resetEvent (s := State.reset) (le_refl 0), fun _ => inv_resetEvent⟩

/-- Settles O57, by what the host's next action can do. -/
theorem everyStepKeepsTheInvariant : Obligations.EveryStepKeepsTheInvariant := by
  intro s t inv stepped
  cases stepped_of_step stepped with
  | idle => exact inv
  | command _ ran => exact everyInstructionKeepsTheInvariant _ _ _ (inv_taken inv _) ran
  | illegal w ran =>
    obtain rfl := Host.Outcome.next.inj ((illegalCommand_eq w _).symm.trans ran)
    split
    · exact inv_respond (inv_taken inv _) _
    · exact inv_raise (inv_of_keeps (inv_taken inv _) (keeps_beginCommand _ _)) (by decide)
  | reset _ _ => exact inv_resetEvent inv.cursor
  | host reads => exact reads.inv (inv_taken inv _)

/-- Settles O60. -/
theorem cursorNeverMovesBack : Obligations.CursorNeverMovesBack := by
  intro s t stepped
  cases stepped_of_step stepped with
  | idle => exact ⟨le_rfl, rfl⟩
  | command _ ran =>
    obtain ⟨bs, reach⟩ := reach_of_exec ran
    exact ⟨reach.1, bs⟩
  | illegal w ran =>
    obtain rfl := Host.Outcome.next.inj ((illegalCommand_eq w _).symm.trans ran)
    split
    · exact ⟨le_rfl, rfl⟩
    · exact ⟨by rw [raise_pos]; exact le_rfl, raise_bs _ _⟩
  | reset _ _ => exact ⟨le_rfl, rfl⟩
  | host reads =>
    cases reads with
    | answered r enough => exact ⟨Nat.le_add_right _ _, rfl⟩

/-- Settles O55: in the error state every action but a reset at most answers and moves the cursor. -/
theorem onlyResetLeavesTheErrorState : Obligations.OnlyResetLeavesTheErrorState := by
  intro s t stopped stepped notReset notResetDuring
  cases stepped_of_step stepped with
  | idle => exact ⟨stopped, rfl, rfl, rfl, rfl, rfl, rfl⟩
  | @command i rest _ ctx ran =>
    by_cases status : i = .status
    · subst status
      obtain rfl := Host.Outcome.next.inj ran
      exact ⟨stopped, rfl, rfl, rfl, rfl, rfl, rfl⟩
    · have refused := errorStateRefusesEverythingButStatus i (taken rest s) status (by simp [ctx]) stopped
      obtain rfl := Host.Outcome.next.inj (refused.symm.trans ran)
      exact ⟨stopped, rfl, rfl, rfl, rfl, rfl, rfl⟩
  | illegal w ran =>
    obtain rfl := Host.Outcome.next.inj ((illegalCommand_eq w _).symm.trans ran)
    rw [taken_err, if_pos stopped]
    exact ⟨stopped, rfl, rfl, rfl, rfl, rfl, rfl⟩
  | reset isReset port =>
    obtain rfl | ⟨w, rfl⟩ := isReset
    · exact absurd port (notReset _)
    · exact absurd port (notResetDuring w _)
  | host reads =>
    cases reads with
    | answered r enough => exact ⟨stopped, rfl, rfl, rfl, rfl, rfl, rfl⟩

end Sys2Proof.Endings

/-! ## The step as the host sees it (10_state.md R35, 20_memory.md R66 to R70, 70_reset_and_hazards.md R240, R241) -/

namespace Sys2Proof.HostSteps

open Sys2Proof.Machine Sys2Proof.Endings

/-! ### Reset -/

theorem resetEvent_clears (s : State) :
    (resetEvent s).mvrF.valid = false ∧ (resetEvent s).mvrB.valid = false ∧ (resetEvent s).err = false ∧ (resetEvent s).ecode = 0 ∧
      (resetEvent s).eop = 0 ∧ (resetEvent s).epos = 0 ∧ (∀ i, (resetEvent s).cb.read i = none) ∧ statusWord (resetEvent s) = 0 :=
  have same_word : statusWord (resetEvent s) = statusWord State.reset := rfl
  ⟨rfl, rfl, rfl, rfl, rfl, rfl, fun _ => rfl, same_word.trans (by decide)⟩

/-- Settles O1: the reset state is what a reset event leaves of it. -/
theorem resetClearsValidStatusAndBuffer : Obligations.ResetClearsValidStatusAndBuffer := by
  rintro s (rfl | ⟨s₀, rfl⟩)
  · exact resetEvent_clears State.reset
  · exact resetEvent_clears s₀

/-- Settles O2. -/
theorem resetEventMovesNoCursor : Obligations.ResetEventMovesNoCursor := by
  intro s w rest a isReset port
  have isReset : a = .reset ∨ ∃ w, a = .resetDuring w := isReset.imp_right fun during => ⟨w, during⟩
  exact ⟨_, step_reset isReset port, rfl, rfl, rfl, rfl, rfl, rfl, rfl, rfl⟩

/-! ### Commands -/

/-- Settles O3: the port gives the word, and the word of a command decodes to it. -/
theorem stepRunsTheDecodedCommand : Obligations.StepRunsTheDecodedCommand :=
  ⟨fun _ _ _ _ port decoded => step_command port decoded,
    fun _ _ _ ctx port => step_command port (Encoding.decodeCommand_commandWord ctx)⟩

/-- Settles O4. -/
theorem reservedWordsRaiseProtocolError : Obligations.ReservedWordsRaiseProtocolError := by
  intro s w rest r port rejected
  rw [step_illegal port rejected, illegalCommand_eq, taken_err]
  split
  next => rfl
  next running => rw [raise_of_not_err _ (beginCommand _ (taken rest s)) (Bool.eq_false_iff.2 running)]; rfl

/-- Settles O5. -/
theorem idleStepChangesNothing : Obligations.IdleStepChangesNothing := fun _ => step_idle

/-! ### The host's reads (20_memory.md R52 to R55) -/

section
variable {s : State} {n v : Nat}

theorem bitRead_of_take (small : v < 2 ^ n) (h : s.unread.take n = code n v) : bitRead n s = some (v, bitSkip n s) :=
  bitRead_code n v (s.unread.drop n) s small (by rw [← h, List.take_append_drop])

theorem bitPeek_of_take (enough : n ≤ s.remaining) (h : s.unread.take n = code n v) : bitPeek n s = some (code n v) := by
  rw [bitPeek_of_le n s enough, h]

theorem hostRead_short (lo : 1 ≤ n) (hi : n ≤ 32) (short : s.remaining < n) : hostRead n s = .next (respond .hostEndOfStream s) := by
  rw [hostRead, inPeekContract_inside lo hi, StreamFields.bitRead_eq_none short]

theorem hostPeek_short (lo : 1 ≤ n) (hi : n ≤ 32) (short : s.remaining < n) : hostPeek n s = .next (respond .hostEndOfStream s) := by
  rw [hostPeek, inPeekContract_inside lo hi, (bitPeek_eq_none n s).2 short]

theorem hostReadS_short (lo : 1 ≤ n) (hi : n ≤ 32) (short : s.remaining < n) :
    hostReadS n s = .next (respond .hostEndOfStream s) := by
  rw [hostReadS, inPeekContract_inside lo hi, bitReadS, StreamFields.bitRead_eq_none short]
  rfl

theorem hostRead_value (lo : 1 ≤ n) (hi : n ≤ 32) (small : v < 2 ^ n) (h : s.unread.take n = code n v) :
    hostRead n s = .next (respond (.hostBits v) (bitSkip n s)) := by
  rw [hostRead, inPeekContract_inside lo hi, bitRead_of_take small h]

theorem hostPeek_value (lo : 1 ≤ n) (hi : n ≤ 32) (enough : n ≤ s.remaining) (small : v < 2 ^ n)
    (h : s.unread.take n = code n v) : hostPeek n s = .next (respond (.hostBits v) s) := by
  rw [hostPeek, inPeekContract_inside lo hi, bitPeek_of_take enough h]
  simp only [bitsToNat_code n v small]

theorem hostReadS_value (lo : 1 ≤ n) (hi : n ≤ 32) (small : v < 2 ^ n) (h : s.unread.take n = code n v) :
    hostReadS n s = .next (respond (.hostBits (sextN n v)) (bitSkip n s)) := by
  rw [hostReadS, inPeekContract_inside lo hi, bitReadS, bitRead_of_take small h]
  rfl

end

/-- Settles O6: outside the contract, at the end of the stream, and with a value to read. -/
theorem hostReadsFollowTheBitReaderContract : Obligations.HostReadsFollowTheBitReaderContract := by
  intro s rest n
  refine ⟨fun port outside => ?_, fun port lo hi short => ?_,
    fun v lo hi enough small value => ⟨fun port => ?_, fun port => ?_, fun port => ?_⟩⟩
  · obtain port | port | port := port
    · exact (step_bitRead port).trans (inPeekContract_outside outside _)
    · exact (step_bitPeek port).trans (inPeekContract_outside outside _)
    · exact (step_bitReadS port).trans (inPeekContract_outside outside _)
  · obtain port | port | port := port
    · exact (step_bitRead port).trans (hostRead_short (s := taken rest s) lo hi short)
    · exact (step_bitPeek port).trans (hostPeek_short (s := taken rest s) lo hi short)
    · exact (step_bitReadS port).trans (hostReadS_short (s := taken rest s) lo hi short)
  · exact (step_bitRead port).trans (hostRead_value (s := taken rest s) lo hi small value)
  · exact (step_bitPeek port).trans (hostPeek_value (s := taken rest s) lo hi enough small value)
  · exact (step_bitReadS port).trans (hostReadS_value (s := taken rest s) lo hi small value)

/-! ### The motion residual fields (30_encoding.md R102) -/

theorem exec_residualField {n r : Nat} {i : Instr} (h : residualField n r = some i) (small : r < 2 ^ n) :
    1 ≤ n ∧ n ≤ 6 ∧
      (i = .mvResidualRSize1 (BitVec.ofNat 1 r) ∨ i = .mvResidualRSize2 (BitVec.ofNat 2 r) ∨
        i = .mvResidualRSize3 (BitVec.ofNat 3 r) ∨ i = .mvResidualRSize4 (BitVec.ofNat 4 r) ∨
        i = .mvResidualRSize5 (BitVec.ofNat 5 r) ∨ i = .mvResidualRSize6 (BitVec.ofNat 6 r)) ∧
      ∀ s, exec i s = residualRow n r s := by
  have held : (BitVec.ofNat n r).toNat = r := by rw [BitVec.toNat_ofNat, Nat.mod_eq_of_lt small]
  have row (s : State) : residualRow n (BitVec.ofNat n r).toNat s = residualRow n r s := by rw [held]
  match n, h with
  | 1, h | 2, h | 3, h | 4, h | 5, h | 6, h =>
    obtain rfl := Option.some.inj h
    exact ⟨by decide, by decide, by simp, row⟩

theorem residualRow_enough {n r : Nat} {s : State} (h : n ≤ s.remaining) :
    residualRow n r s = .next (respond (.hostBits r) (bitSkip n s)) := if_neg (not_lt.2 h)

theorem residualRow_short {n r : Nat} {s : State} (h : s.remaining < n) :
    residualRow n r s = .next (respond .hostEndOfStream s) := if_pos h

/-- Settles O8: the row is the host's read with its bits already decoded. -/
theorem motionResidualFieldsAreReadByTheHost : Obligations.MotionResidualFieldsAreReadByTheHost := by
  intro n r i s field small
  obtain ⟨lo, hi, row, exec_eq⟩ := exec_residualField field small
  refine ⟨lo, hi, row, fun enough => (exec_eq s).trans (residualRow_enough enough),
    fun short => (exec_eq s).trans (residualRow_short short), fun rest port value => ?_⟩
  have enough : n ≤ (taken rest s).remaining := by
    have := congrArg List.length value
    rw [code_length, List.length_take, unread_length] at this
    exact this ▸ min_le_right _ _
  rw [step_bitRead port, hostRead_value (s := taken rest s) lo (hi.trans (by decide)) small value]
  exact ((exec_eq (taken rest s)).trans (residualRow_enough enough)).symm

/-! ### Reserved words and ignored bits (30_encoding.md R81 to R84) -/

/-- Settles O15: the opcode map is one match on the opcode, the selectors one on the low bits. -/
theorem reservedOpcodesAndSelectorsAreRejected : Obligations.ReservedOpcodesAndSelectorsAreRejected := by
  intro w
  have opcode_iff : opcodeOf w = 0x02 ↔ (opcodeOf w).toNat = 0x02 := BitVec.toNat_inj.symm
  rw [opcode_iff]
  unfold decodeCommand
  have selector_lt : (w.extractLsb' 0 3).toNat < 8 := (w.extractLsb' 0 3).isLt
  generalize (w.extractLsb' 0 3).toNat = selector at *
  split
  case h_3 opcode => interval_cases selector <;> simp [opcode]
  case h_21 => simp_all
  all_goals simp [*]

/-- The bits of a command word the opcode map assigns to the opcode `op` (R82). -/
def assignedBits (op : Nat) : Word :=
  if op = 0x02 then 0xFF000007
  else if op = 0x07 then 0xFF00000F
  else if op = 0x10 ∨ op = 0x11 then 0xFF00000F
  else if op = 0x14 ∨ op = 0x15 then 0xFFFFFFFF
  else if op = 0x20 then 0xFF3FFFFF
  else if op = 0x21 then 0xFF3F0000
  else 0xFF000000

section
variable {w w' mask : Word}

/-- A field inside the mask is the same in words that agree under the mask. -/
theorem extractLsb'_of_masked (agree : w &&& mask = w' &&& mask) {start len : Nat}
    (inside : mask.extractLsb' start len = BitVec.allOnes len) : w.extractLsb' start len = w'.extractLsb' start len := by
  have fields := congrArg (BitVec.extractLsb' start len) agree
  rwa [BitVec.extractLsb'_and, BitVec.extractLsb'_and, inside, BitVec.and_allOnes, BitVec.and_allOnes] at fields

theorem getLsbD_of_masked (agree : w &&& mask = w' &&& mask) {k : Nat} (inside : mask.getLsbD k = true) :
    w.getLsbD k = w'.getLsbD k := by
  have bits := congrArg (BitVec.getLsbD · k) agree
  simpa [BitVec.getLsbD_and, inside] using bits

end

/-- Settles O14: for each opcode the decoder reads fields inside the assigned bits. -/
theorem unassignedCommandBitsAreIgnored : Obligations.UnassignedCommandBitsAreIgnored := by
  intro w w' opcode agree
  change w &&& assignedBits (opcodeOf w).toNat = w' &&& assignedBits (opcodeOf w).toNat at agree
  unfold decodeCommand
  rw [← opcode]
  split
  case h_3 op | h_8 op | h_18 op => rw [op] at agree; rw [extractLsb'_of_masked agree (by decide)]
  case h_11 op | h_12 op =>
    rw [op] at agree
    rw [getLsbD_of_masked agree (by decide), extractLsb'_of_masked agree (by decide)]
  case h_15 op | h_16 op =>
    rw [op] at agree
    change w &&& BitVec.allOnes 32 = w' &&& BitVec.allOnes 32 at agree
    rw [BitVec.and_allOnes, BitVec.and_allOnes] at agree
    rw [agree]
  case h_17 op =>
    rw [op] at agree
    rw [extractLsb'_of_masked agree (by decide), extractLsb'_of_masked (start := 0) agree (by decide)]
  all_goals rfl

/-- Settles O16: six words of 95_test_vectors.md. -/
theorem specWordsDecodeAsTheSpecSays : Obligations.SpecWordsDecodeAsTheSpecSays :=
  ⟨rfl, rfl, rfl, rfl, rfl, rfl⟩

/-! ### The bit port (20_memory.md R52, R54) -/

theorem bitsToNat_eq_sum (b : Bits) :
    bitsToNat b = ((List.range b.length).map fun i => (b.getD i false).toNat * 2 ^ (b.length - 1 - i)).sum := by
  induction b with
  | nil => rfl
  | cons x b ih =>
    rw [bitsToNat_cons, ih, List.length_cons, List.range_succ_eq_map, List.map_cons, List.sum_cons, List.map_map]
    congr 2
    refine List.map_congr_left fun i _ => ?_
    simp only [Function.comp, List.getD_cons_succ]
    congr 2
    omega

/-- Bit `i` of the next `n` bits. -/
theorem getD_take_unread (s : State) {n i : Nat} (h : i < n) :
    (s.unread.take n).getD i false = s.bs.getD (s.pos + i) false := by
  simp only [List.getD_eq_getElem?_getD, List.getElem?_take_of_lt h, State.unread, List.getElem?_drop]

/-- Settles O17. -/
theorem bitPeekIsBigEndianAndStrict : Obligations.BitPeekIsBigEndianAndStrict := by
  intro n s
  refine ⟨fun short => ⟨(bitPeek_eq_none n s).2 short, StreamFields.bitRead_eq_none short⟩, fun enough => ?_⟩
  have length_eq : (s.unread.take n).length = n := List.length_take_of_le (enough.trans_eq (unread_length s).symm)
  refine ⟨s.unread.take n, bitPeek_of_le n s enough, length_eq, ?sum, ?read⟩
  case sum =>
    rw [bitsToNat_eq_sum, length_eq]
    congr 1
    exact List.map_congr_left fun i hi => by rw [getD_take_unread s (List.mem_range.1 hi)]
  case read =>
    obtain ⟨short, -⟩ | ⟨-, read⟩ := bitRead_cases n s
    · exact absurd short (not_lt.2 enough)
    · exact read

end Sys2Proof.HostSteps

/-! ## Codewords by themselves and the commands that decode them (30_encoding.md R88, 40_vld_macroblock.md, 41_vld_block.md)

A command that decodes a table finds the row its stream begins with and then does what the row does by itself. So each statement about
a command is the look-up followed by the statement about the row. -/

namespace Sys2Proof.Decoding

open Sys2Proof.Machine Sys2Proof.SpecTables Sys2Proof.StreamBodies Sys2Proof.CodeTables Sys2Proof.Encoding Sys2Proof.StreamFields

/-! ### Rows by themselves -/

section
variable {s : State}

theorem mbaIncrement_running (len v : Nat) (running : s.err = false) (window : 11 ≤ s.remaining) :
    mbaIncrement len v s = .next { s with pos := s.pos + len, acc := 0, responses := .mba (s.acc + v) :: s.responses } := by
  rw [mbaIncrement_eq, codeword_running .mba _ _ s running window]; rfl

theorem mvRow_running (len : Nat) (c : Int) (running : s.err = false) (window : 11 ≤ s.remaining) :
    mvRow len c s = .next { s with pos := s.pos + len, responses := .mv c :: s.responses } :=
  codeword_running .mv len _ s running window

theorem cbpRow_running (len : Nat) (v : BitVec 6) (running : s.err = false) (window : 9 ≤ s.remaining) :
    cbpRow len v s = .next { s with pos := s.pos + len, responses := .cbp v :: s.responses } :=
  codeword_running .cbp len _ s running window

theorem mbtRow_running {t : Table} (len : Nat) (flags : TypeFlags) (running : s.err = false) (window : t.width ≤ s.remaining) :
    mbtRow t len flags s = .next { s with pos := s.pos + len, responses := .mbt flags :: s.responses } :=
  codeword_running t len _ s running window

theorem dcSizeRow_running {t : Table} (len size : Nat) (running : s.err = false) (window : t.width ≤ s.remaining) :
    dcSizeRow t len size s = .next { s with pos := s.pos + len, responses := .dcSize size :: s.responses } :=
  codeword_running t len _ s running window

theorem acRow_running {t : Table} (len run mag : Nat) (sign : Bool) (running : s.err = false) (window : t.width ≤ s.remaining) :
    acRow t len run mag sign s = .next { s with
      pos := s.pos + len, responses := .ac false false run (if sign then -(mag : Int) else mag) :: s.responses } :=
  codeword_running t len _ s running window

/-- Fields the stream holds are consumed in one go. -/
theorem takeFields_enough (finish : State → State) {ns : List Nat} {s : State} (enough : ns.sum ≤ s.remaining) :
    takeFields ns finish s = finish (bitSkip ns.sum s) := by
  induction ns generalizing s with
  | nil => rfl
  | cons n ns ih =>
    rw [List.sum_cons] at enough
    have held : ¬ s.remaining < n := by omega
    rw [takeFields, if_neg held, ih (by rw [remaining_bitSkip]; omega), bitSkip_bitSkip, List.sum_cons]

/-- An escape row whose fields the stream holds. -/
theorem escapeRow_running (fields : List Nat) (run : BitVec 6) (level : Int) (forbidden : Bool) (running : s.err = false)
    (window : 17 ≤ s.remaining) (enough : 6 + fields.sum ≤ s.remaining) :
    codeword .acn 6 (takeFields fields (escapeFinish Config.escForbidden run level forbidden)) s =
      .next (respond (.ac false true run.toNat level) (bitSkip (6 + fields.sum) s)) := by
  rw [codeword_running .acn 6 _ s running window, takeFields_enough _ (by rw [remaining_bitSkip]; omega), escapeFinish_pass,
    bitSkip_bitSkip]

end

/-- Settles O18, by the rows of Laws/Codewords.lean. -/
theorem macroblockCodewordsDeliverTheirValues : Obligations.MacroblockCodewordsDeliverTheirValues := by
  intro s running
  refine ⟨fun window => ⟨fun r hr => ?increments, exec_stuffing running window, exec_escape running window, fun r hr => ?motion⟩,
    fun r hr window => ?types, fun window r hr => ?patterns⟩
  case increments => rw [exec_mbaIncrements r hr, mbaIncrement_running _ _ running window]
  case motion => rw [exec_motionCodes r hr, mvRow_running _ _ running window]
  case types => rw [exec_macroblockTypes r hr, mbtRow_running _ _ running window]
  case patterns => rw [exec_blockPatterns r hr, cbpRow_running _ _ running window]

/-- Settles O19. -/
theorem blockCodewordsDeliverTheirValues : Obligations.BlockCodewordsDeliverTheirValues := by
  intro s running
  refine ⟨fun r hr window => ?sizes,
    fun window => ⟨fun r hr => ⟨?positive, ?negative⟩, fun b => ?first, fun b => ?next, ?endOfBlock⟩⟩
  case sizes => rw [exec_dcSizes r hr, dcSizeRow_running _ _ running window]
  case positive => rw [exec_runLevels r hr, acRow_running (t := .acn) _ _ _ _ running window]; rfl
  case negative => rw [exec_runLevels r hr, acRow_running (t := .acn) _ _ _ _ running window]; rfl
  case first => exact (acRow_running (t := .acf) 2 0 1 b running window).trans (by cases b <;> rfl)
  case next => exact (acRow_running (t := .acn) 3 0 1 b running window).trans (by cases b <;> rfl)
  case endOfBlock => exact codeword_running .acn 2 _ s running window

/-- Settles O20. -/
theorem escapeCodewordsDeliverRunAndLevel : Obligations.EscapeCodewordsDeliverRunAndLevel := by
  intro s run m running
  refine ⟨fun enough _ _ => ?_, fun enough => ?_, fun enough => ?_⟩
  · exact escapeRow_running [6, 8] run _ _ running (le_trans (by decide) enough) enough
  · exact escapeRow_running [6, 8, 8] run _ _ running (le_trans (by decide) enough) enough
  · exact escapeRow_running [6, 8, 8] run _ _ running (le_trans (by decide) enough) enough

/-- A field row of `size` bits in a running block. -/
theorem dcDiffRow_running {size : Nat} (positive : 1 ≤ size) (d : BitVec size) {s : State} (running : s.err = false)
    (enough : size ≤ s.remaining) :
    dcDiffRow size d.toNat s = .next { s with
      pos := s.pos + size,
      responses := .dcDiff (if 2 ^ (size - 1) ≤ d.toNat then (d.toNat : Int) else (d.toNat : Int) + 1 - 2 ^ size) :: s.responses } := by
  obtain ⟨stopped, -⟩ | ⟨-, short, -⟩ | ⟨-, -, read⟩ := field_cases size (respond (.dcDiff (dcDiff size d.toNat))) s
  · simp [running] at stopped
  · exact absurd short (not_lt.2 enough)
  · rw [dcDiffRow, read, dcDiff_of_pos positive d.isLt]; rfl

/-- Settles O25. -/
theorem dcDifferentialFieldsDeliverTheirValues : Obligations.DcDifferentialFieldsDeliverTheirValues := by
  intro s running
  have row (size : Nat) (positive : 1 ≤ size) (d : BitVec size) (enough : size ≤ s.remaining) :=
    dcDiffRow_running positive d running enough
  exact ⟨row 1 (by decide), row 2 (by decide), row 3 (by decide), row 4 (by decide), row 5 (by decide), row 6 (by decide),
    row 7 (by decide), row 8 (by decide)⟩

/-! ### The window of a table -/

theorem row_length_le {t : Table} {r : Bits × Entry} (h : r ∈ t.rows) : r.1.length ≤ t.width := by
  have checked : (t.rows.all fun r => decide (r.1.length ≤ t.width)) = true := by cases t <;> decide +kernel
  exact of_decide_eq_true (List.all_eq_true.1 checked r h)

theorem unused_length_le {t : Table} {p : Bits} (h : p ∈ unusedPrefixes t) : p.length ≤ t.width := by
  have checked : ((unusedPrefixes t).all fun p => decide (p.length ≤ t.width)) = true := by cases t <;> decide
  exact of_decide_eq_true (List.all_eq_true.1 checked p h)

section
variable {t : Table} {s : State}

/-- The window begins with the row its stream begins with. -/
theorem lookup_window {r : Bits × Entry} (h : r ∈ t.rows) {rest : Bits} (unread : s.unread = r.1 ++ rest) :
    lookup t (s.unread.take t.width) = some r :=
  lookup_of_mem t _ r (codeTablesArePrefixFree t) h
    (List.prefix_take_iff.2 ⟨unread ▸ List.prefix_append _ _, row_length_le h⟩)

/-- A window that begins with an unused string matches no row (R103). -/
theorem lookup_window_unused (window : t.width ≤ s.remaining)
    (unused : (unusedPrefixes t).any (fun p => p.isPrefixOf s.unread) = true) : lookup t (s.unread.take t.width) = none := by
  obtain ⟨p, hp, begins⟩ := List.any_eq_true.1 unused
  have begins_window : p <+: s.unread.take t.width :=
    List.prefix_take_iff.2 ⟨List.isPrefixOf_iff_prefix.1 begins, unused_length_le hp⟩
  have window_unused : (unusedPrefixes t).any (fun p => p.isPrefixOf (s.unread.take t.width)) = true :=
    List.any_eq_true.2 ⟨p, hp, List.isPrefixOf_iff_prefix.2 begins_window⟩
  have count := unusedWindowsAreExactlyTheListed t (s.unread.take t.width)
    (List.length_take_of_le (window.trans_eq (unread_length s).symm))
  rw [window_unused, if_pos rfl, List.length_eq_zero_iff, List.filter_eq_nil_iff] at count
  exact List.find?_eq_none.2 count

/-- A command that decodes the table does what the row it finds does by itself. -/
theorem vlcDecode_eq_exec {c rest : Bits} {i : Instr} (h : (c, .row i) ∈ t.rows) (unread : s.unread = c ++ rest)
    (window : t.width ≤ s.remaining) : vlcDecode t s = exec i s := by
  obtain ⟨t', ctx, -⟩ := ctx_of_mem_rows h
  rw [vlcDecode_row t s c rest i (codeTablesArePrefixFree t) h (row_length_le h) unread window, runRow_eq_exec ctx]

end

/-! ### The commands that decode a table -/

/-- The rows of the spec's tables are rows of the model's. -/
theorem mem_rows_of_encode {t : Table} {c : Bits} {i : Instr} (ctx : i.ctx = .vlc t) (row : isEscapeForm i = false)
    (code_eq : encode i = c) : (c, .row i) ∈ t.rows :=
  code_eq ▸ encode_mem_rows ctx row

theorem macroblockTypes_mem_rows : ∀ r ∈ macroblockTypes, (r.2.2.1, .row r.2.1) ∈ r.1.rows := by
  intro r hr; fin_cases hr <;> exact mem_rows_of_encode rfl rfl rfl

theorem motionCodes_mem_rows : ∀ r ∈ motionCodes, (r.2.1, .row r.1) ∈ Table.mv.rows := by
  intro r hr; fin_cases hr <;> exact mem_rows_of_encode rfl rfl rfl

theorem blockPatterns_mem_rows : ∀ r ∈ blockPatterns, (r.2.1, .row r.1) ∈ Table.cbp.rows := by
  intro r hr; fin_cases hr <;> exact mem_rows_of_encode rfl rfl rfl

theorem dcSizes_mem_rows : ∀ r ∈ dcSizes, (r.2.2.1, .row r.2.1) ∈ r.1.rows := by
  intro r hr; fin_cases hr <;> exact mem_rows_of_encode rfl rfl rfl

theorem mbaIncrements_mem_rows : ∀ r ∈ mbaIncrements, (r.2.1, .row r.1) ∈ Table.mba.rows := by
  intro r hr; fin_cases hr <;> exact mem_rows_of_encode rfl rfl rfl

theorem runLevels_mem_rows : ∀ r ∈ runLevels, ∀ b, (r.2.1 ++ [b], .row (r.1 b)) ∈ Table.acn.rows := by
  intro r hr b; fin_cases hr <;> exact mem_rows_of_encode rfl rfl rfl

/-- The body of the command that decodes a table: every one but `VLD.MBA` is one look-up (R120, R121). -/
def tableBody : Table → State → Outcome
  | .mba, s => mbaLoop (s.bs.length + 1) s
  | t, s => vlcDecode t s

theorem tableBody_of_ne {t : Table} (one : t ≠ .mba) (s : State) : tableBody t s = vlcDecode t s := by
  cases t
  case mba => exact absurd rfl one
  all_goals rfl

theorem exec_tableCommands :
    ∀ c ∈ tableCommands, c.2.2.2 = c.2.2.1.width ∧ ∀ s, exec c.1 s = command c.2.1 (tableBody c.2.2.1) s := by
  intro c hc; fin_cases hc <;> exact ⟨rfl, fun _ => rfl⟩

theorem tableBody_short {t : Table} {s : State} (short : s.remaining < t.width) :
    tableBody t s = .next (raise .unexpectedEndOfStream s) := by
  by_cases one : t = .mba
  · subst one; exact mbaLoop_short short _
  · rw [tableBody_of_ne one, vlcDecode_short t s short]

theorem tableBody_unused {t : Table} {s : State} (window : t.width ≤ s.remaining)
    (unused : (unusedPrefixes t).any (fun p => p.isPrefixOf s.unread) = true) :
    tableBody t s = .next (raise .invalidVlcCode s) := by
  have found := lookup_window_unused window unused
  by_cases one : t = .mba
  · subst one; exact mbaLoop_unused window found _
  · rw [tableBody_of_ne one, vlcDecode_unused t s window found]

section
variable {s : State} {c : Instr × BitVec 8 × Table × Nat}

/-- A table command that raises an error records it with its own opcode at the unmoved cursor. -/
theorem exec_raise (hc : c ∈ tableCommands) (running : s.err = false) {k : ErrorKind}
    (raises : tableBody c.2.2.1 (beginCommand c.2.1 s) = .next (raise k (beginCommand c.2.1 s))) :
    exec c.1 s = .next { s with
      op := c.2.1, acc := 0, err := true, ecode := k.code, eop := c.2.1, epos := s.pos,
      responses := .err k.code :: s.responses } := by
  obtain ⟨-, is_command⟩ := exec_tableCommands c hc
  have begun : (beginCommand c.2.1 s).err = false := running
  rw [is_command, command_running _ _ s running, raises, raise_of_not_err k _ begun]
  rfl

/-- A table command other than `VLD.MBA` is its opcode and the row it finds. -/
theorem exec_found (hc : c ∈ tableCommands) (one : c.2.2.1 ≠ .mba) {bits rest : Bits} {i : Instr}
    (row : (bits, .row i) ∈ c.2.2.1.rows) (running : s.err = false) (unread : s.unread = bits ++ rest) (window : c.2.2.2 ≤ s.remaining) :
    exec c.1 s = exec i (beginCommand c.2.1 s) := by
  obtain ⟨width_eq, is_command⟩ := exec_tableCommands c hc
  rw [is_command, command_running _ _ s running, tableBody_of_ne one]
  exact vlcDecode_eq_exec (s := beginCommand c.2.1 s) row unread (width_eq ▸ window)

end

/-- Settles O29. -/
theorem shortWindowRaisesEndOfStream : Obligations.ShortWindowRaisesEndOfStream := by
  intro s running c hc short
  obtain ⟨width_eq, -⟩ := exec_tableCommands c hc
  exact exec_raise hc running (tableBody_short (s := beginCommand c.2.1 s) (width_eq ▸ short))

/-- Settles O30: an unused window matches no row by O13. -/
theorem unusedWindowRaisesInvalidVlcCode : Obligations.UnusedWindowRaisesInvalidVlcCode := by
  intro s running c hc window unused
  obtain ⟨width_eq, -⟩ := exec_tableCommands c hc
  exact exec_raise hc running (tableBody_unused (s := beginCommand c.2.1 s) (width_eq ▸ window) unused)

theorem macroblockTypes_opcode :
    ∀ r ∈ macroblockTypes, r.1 ≠ .mba ∧ ∀ c ∈ tableCommands, c.2.2.1 = r.1 → c.2.1 = 0x02 ∧ c.2.2.2 = r.1.width := by decide

theorem dcSizes_width :
    ∀ r ∈ dcSizes, r.1 ≠ .mba ∧ ∀ c ∈ tableCommands, c.2.2.1 = r.1 → c.2.2.2 = r.1.width := by decide

/-- Settles O21: each command is the row its stream begins with. -/
theorem tableCommandsDecodeTheCodeTheyFind : Obligations.TableCommandsDecodeTheCodeTheyFind := by
  intro s rest running
  refine ⟨fun r hr c hc table unread window => ?types, fun r hr unread window => ?motion, fun r hr unread window => ?patterns,
    fun r hr c hc table unread window => ?sizes⟩
  case types =>
    obtain ⟨one, opcode⟩ := macroblockTypes_opcode r hr
    obtain ⟨opcode, width_eq⟩ := opcode c hc table
    rw [exec_found hc (table ▸ one) (table ▸ macroblockTypes_mem_rows r hr) running unread window, exec_macroblockTypes r hr, opcode,
      mbtRow_running (s := beginCommand 0x02 s) _ _ running (width_eq ▸ window)]
    rfl
  case motion =>
    have hc : (Instr.vldMv, 0x03#8, Table.mv, 11) ∈ tableCommands := by decide
    rw [exec_found hc (by decide) (motionCodes_mem_rows r hr) running unread window, exec_motionCodes r hr,
      mvRow_running (s := beginCommand _ s) _ _ running window]
    rfl
  case patterns =>
    have hc : (Instr.vldCbp, 0x04#8, Table.cbp, 9) ∈ tableCommands := by decide
    rw [exec_found hc (by decide) (blockPatterns_mem_rows r hr) running unread window, exec_blockPatterns r hr,
      cbpRow_running (s := beginCommand _ s) _ _ running window]
    rfl
  case sizes =>
    obtain ⟨one, width_eq⟩ := dcSizes_width r hr
    rw [exec_found hc (table ▸ one) (table ▸ dcSizes_mem_rows r hr) running unread window, exec_dcSizes r hr,
      dcSizeRow_running (s := beginCommand c.2.1 s) _ _ running (width_eq c hc table ▸ window)]
    rfl

/-! ### Run and level (41_vld_block.md R143, R144) -/

theorem runLevels_mem_acf {r : (Bool → Instr) × Bits × Nat × Nat} (hr : r ∈ runLevels) (b : Bool) :
    (r.2.1 ++ [b], .row (r.1 b)) ∈ Table.acf.rows := by
  have shared : r.1 b ≠ .tAcnEndOfBlock ∧ ∀ b', r.1 b ≠ .tAcnRun0Level1Next b' := by fin_cases hr <;> exact ⟨nofun, nofun⟩
  obtain ⟨notEob, notNext⟩ := shared
  exact mem_acf_of_mem_acn (runLevels_mem_rows r hr b) notEob notNext

/-- A row without an escape, found by `VLD.ACF` or `VLD.ACN`. -/
theorem exec_acRow {c : Instr × BitVec 8 × Table × Nat} (hc : c ∈ [(Instr.vldAcf, 0x08#8, Table.acf, 17), (.vldAcn, 0x09#8, .acn, 17)])
    {s : State} {bits rest : Bits} {i : Instr} (row : (bits, .row i) ∈ c.2.2.1.rows) {t : Table} (narrow : t.width ≤ 17)
    {len run mag : Nat} {sign : Bool} (is_row : ∀ s, exec i s = acRow t len run mag sign s) (running : s.err = false)
    (unread : s.unread = bits ++ rest) (window : 17 ≤ s.remaining) :
    exec c.1 s = .next { s with
      pos := s.pos + len, op := c.2.1, acc := 0,
      responses := .ac false false run (if sign then -(mag : Int) else mag) :: s.responses } := by
  have both : ∀ c ∈ [(Instr.vldAcf, 0x08#8, Table.acf, 17), (.vldAcn, 0x09#8, .acn, 17)],
      c ∈ tableCommands ∧ c.2.2.1 ≠ .mba ∧ c.2.2.2 = 17 := by decide
  obtain ⟨command, one, width_eq⟩ := both c hc
  rw [exec_found command one row running unread (width_eq ▸ window), is_row,
    acRow_running (s := beginCommand c.2.1 s) _ _ _ _ running (narrow.trans window)]
  rfl

/-- Settles O26: rows that both tables hold, and the short codes of each. -/
theorem acCommandsDecodeRunAndLevel : Obligations.AcCommandsDecodeRunAndLevel := by
  intro s rest b running window
  refine ⟨fun r hr unread => ?shared, fun unread => ?first, fun unread => ?endOfBlock, fun unread => ?next⟩
  case shared =>
    have unread : s.unread = (r.2.1 ++ [b]) ++ rest := by rw [unread, List.append_assoc]; rfl
    exact ⟨exec_acRow (.head _) (runLevels_mem_acf hr b) (le_refl 17) (exec_runLevels r hr b) running unread window,
      exec_acRow (.tail _ (.head _)) (runLevels_mem_rows r hr b) (le_refl 17) (exec_runLevels r hr b) running unread window⟩
  case first =>
    have row : ([true, b], .row (.tAcfRun0Level1First b)) ∈ Table.acf.rows := mem_rows_of_encode rfl rfl rfl
    exact exec_acRow (.head _) row (t := .acf) (mag := 1) (le_refl 17) (fun _ => rfl) running unread window
  case endOfBlock =>
    have row : ([true, false], .row .tAcnEndOfBlock) ∈ Table.acn.rows := mem_rows_of_encode rfl rfl rfl
    have hc : (Instr.vldAcn, 0x09#8, Table.acn, 17) ∈ tableCommands := by decide
    rw [exec_found hc (by decide) row running unread window]
    exact codeword_running .acn 2 _ (beginCommand 0x09 s) running window
  case next =>
    have row : ([true, true, b], .row (.tAcnRun0Level1Next b)) ∈ Table.acn.rows := mem_rows_of_encode rfl rfl rfl
    exact exec_acRow (.tail _ (.head _)) row (t := .acn) (mag := 1) (le_refl 17) (fun _ => rfl) running unread window

/-- Settles O28: each field that is read before the stream ends stays consumed. -/
theorem truncatedEscapeKeepsTheFieldsItRead : Obligations.TruncatedEscapeKeepsTheFieldsItRead := by
  intro s rest running c hc run lv
  refine ⟨fun unread enough short => ?levelByte, fun long unread short => ?secondByte⟩
  case levelByte =>
    rw [List.append_assoc] at unread
    have body := exec_acCommands_escape hc running unread (by simp [code_length]; omega)
    have after_code : (bitSkip 6 (beginCommand c.2 s)).unread = code 6 run.toNat ++ rest := unread_bitSkip_code unread
    have read_run := bitRead_code _ _ _ _ run.isLt after_code
    have ends : bitRead 8 (bitSkip 6 (bitSkip 6 (beginCommand c.2 s))) = none :=
      bitRead_eq_none (by rwa [← unread_length, unread_bitSkip_code after_code])
    have raised : escapeBody (bitSkip 6 (beginCommand c.2 s)) =
        raise .unexpectedEndOfStream (bitSkip 6 (bitSkip 6 (beginCommand c.2 s))) := by
      simp only [escapeBody, read_run, ends]
    rw [body, raised, bitSkip_bitSkip, raise_of_not_err _ (bitSkip 12 (beginCommand c.2 s)) running]
    rfl
  case secondByte =>
    rw [List.append_assoc, List.append_assoc] at unread
    have body := exec_acCommands_escape hc running unread (by simp [code_length]; omega)
    have after_code : (bitSkip 6 (beginCommand c.2 s)).unread = _ := unread_bitSkip_code unread
    have after_run := unread_bitSkip_code after_code
    have read_run := bitRead_code _ _ _ _ run.isLt after_code
    have read_lv := bitRead_code _ _ _ _ lv.isLt after_run
    have ends : bitRead 8 (bitSkip 8 (bitSkip 6 (bitSkip 6 (beginCommand c.2 s)))) = none :=
      bitRead_eq_none (by rwa [← unread_length, unread_bitSkip_code after_run])
    have raised : escapeBody (bitSkip 6 (beginCommand c.2 s)) =
        raise .unexpectedEndOfStream (bitSkip 8 (bitSkip 6 (bitSkip 6 (beginCommand c.2 s)))) := by
      obtain rfl | rfl := long <;> simp [escapeBody, read_run, read_lv, ends]
    rw [body, raised, bitSkip_bitSkip, bitSkip_bitSkip,
      raise_of_not_err _ (bitSkip 20 (beginCommand c.2 s)) running]
    rfl

/-! ### The macroblock address increment (40_vld_macroblock.md R121) -/

theorem mbaSkip_mem_rows (escape : Bool) :
    (mbaSkip escape, .row (if escape then .tMbaEscape else .tMbaStuffing)) ∈ Table.mba.rows := by
  cases escape <;> exact mem_rows_of_encode rfl rfl rfl

theorem mbaSkip_length (escape : Bool) : (mbaSkip escape).length = 11 := by cases escape <;> rfl

theorem skips_length (skips : List Bool) : (skips.flatMap mbaSkip).length = 11 * skips.length := by
  simp [List.length_flatMap, mbaSkip_length, mul_comm]

/-- One turn of the loop at a stuffing or an escape code. -/
theorem mbaLoop_skip {s : State} (running : s.err = false) {escape : Bool} {rest : Bits} (unread : s.unread = mbaSkip escape ++ rest)
    (turns : Nat) : mbaLoop (turns + 1) s = mbaLoop turns (moved (s.pos + 11) (s.acc + if escape then 33 else 0) s) := by
  have window : 11 ≤ s.remaining := by rw [← unread_length, unread, List.length_append, mbaSkip_length]; omega
  have found := lookup_window (mbaSkip_mem_rows escape) unread
  cases escape with
  | false => exact (mbaLoop_row window found (exec_stuffing running window) turns).1 (.inl rfl)
  | true => exact (mbaLoop_row window found (exec_escape running window) turns).1 (.inr rfl)

/-- The loop past any stuffing and escape codes. -/
theorem mbaLoop_skips {skips : List Bool} {s : State} (running : s.err = false) {rest : Bits}
    (unread : s.unread = skips.flatMap mbaSkip ++ rest) (turns : Nat) :
    mbaLoop (skips.length + turns) s = mbaLoop turns (moved (s.pos + 11 * skips.length) (s.acc + 33 * skips.count true) s) := by
  induction skips generalizing s with
  | nil => simp [moved]
  | cons escape skips ih =>
    rw [List.flatMap_cons, List.append_assoc] at unread
    have after_skip : (moved (s.pos + 11) (s.acc + if escape then 33 else 0) s).unread = skips.flatMap mbaSkip ++ rest := by
      rw [← List.drop_left' (mbaSkip_length escape) (l₂ := skips.flatMap mbaSkip ++ rest), ← unread]
      exact unread_bitSkip 11 s
    rw [List.length_cons, show skips.length + 1 + turns = skips.length + turns + 1 by omega, mbaLoop_skip running unread,
      ih (s := moved (s.pos + 11) (s.acc + if escape then 33 else 0) s) running after_skip]
    congr 1
    cases escape <;> simp [moved] <;> omega

/-- `VLD.MBA` after any stuffing and escape codes: one more turn at least is left. -/
theorem exec_vldMba_skips {s : State} (running : s.err = false) {skips : List Bool} {rest : Bits}
    (unread : s.unread = skips.flatMap mbaSkip ++ rest) :
    ∃ turns u, u = moved (s.pos + 11 * skips.length) (33 * skips.count true) (beginCommand 0x01 s) ∧ u.unread = rest ∧
      exec .vldMba s = mbaLoop (turns + 1) u := by
  have held : skips.length ≤ s.bs.length := by
    have := unread_length s
    rw [unread, List.length_append, skips_length, State.remaining] at this
    omega
  refine ⟨s.bs.length - skips.length, _, rfl, ?after_skips, ?loop⟩
  case after_skips =>
    rw [← List.drop_left' (skips_length skips) (l₂ := rest), ← unread]
    exact unread_bitSkip (11 * skips.length) s
  case loop =>
    have started : exec .vldMba s = mbaLoop (s.bs.length + 1) (beginCommand 0x01 s) := command_running 0x01 _ s running
    rw [started, show s.bs.length + 1 = skips.length + (s.bs.length - skips.length + 1) by omega,
      mbaLoop_skips (s := beginCommand 0x01 s) running unread]
    simp

/-- Settles O22: after the skipped codes the increment row ends the loop. -/
theorem mbaSumsEscapesAndTheIncrement : Obligations.MbaSumsEscapesAndTheIncrement := by
  intro s skips rest running r hr unread enough
  obtain ⟨turns, u, u_eq, unread, loop⟩ := exec_vldMba_skips running unread
  have u_running : u.err = false := u_eq ▸ running
  have window : 11 ≤ u.remaining := by rwa [← unread_length, unread]
  have found := lookup_window (mbaIncrements_mem_rows r hr) unread
  have ran := (exec_mbaIncrements r hr u).trans (mbaIncrement_running _ _ u_running window)
  have ends : ¬ GoesOn r.1 := by fin_cases hr <;> simp [GoesOn]
  obtain ⟨-, last⟩ := mbaLoop_row window found ran turns
  rw [loop, last ends, u_eq]
  rfl

/-- Settles O23: after the skipped codes the loop ends at the window it cannot decode. -/
theorem mbaKeepsWhatItSkippedWhenItFails : Obligations.MbaKeepsWhatItSkippedWhenItFails := by
  intro s skips rest running unread k failing
  obtain ⟨turns, u, u_eq, unread, loop⟩ := exec_vldMba_skips running unread
  have u_running : u.err = false := u_eq ▸ running
  have fails : ∃ kind, mbaLoop (turns + 1) u = .next (raise kind u) ∧ kind.code = k := by
    rw [← unread, unread_length] at failing
    obtain ⟨short, rfl⟩ | ⟨window, rfl, unused⟩ := failing
    · exact ⟨_, mbaLoop_short short turns, rfl⟩
    · exact ⟨_, mbaLoop_unused window (lookup_window_unused (t := .mba) window unused) turns, rfl⟩
  obtain ⟨kind, fails, rfl⟩ := fails
  rw [loop, fails, raise_of_not_err kind u u_running, u_eq]
  exact ⟨_, rfl, rfl, rfl, rfl, rfl, rfl, rfl, rfl, rfl, rfl, rfl, rfl⟩

end Sys2Proof.Decoding

/-! ## The coefficient buffer and the inverse DCT (43_idct.md R180 to R191)

Each output of the 1-D kernel is a row of the spec's matrix multiplied out, rounded once. So the bounds are those of the row's sum of
magnitudes, and odd symmetry is that of the rounding. -/

namespace Sys2Proof.Residuals

open Sys2Proof.Machine Sys2Proof.SpecTables

/-! ### One entry of the buffer (R181, R182) -/

/-- The body of `CB.WR`. The value has the width of an entry, so its sign extension is the value. -/
def cbWriteBody (idx : BitVec 6) (v : BitVec 16) (s : State) : Outcome :=
  .next (respond .ok { s with cb := s.cb.write idx.toNat v })

theorem exec_cbWr (idx : BitVec 6) (v : BitVec 16) (s : State) : exec (.cbWr idx v) s = command 0x20 (cbWriteBody idx v) s := by
  have same_width : v.signExtend Config.cbW = v := BitVec.signExtend_eq v
  change execCbWr idx v s = _
  rw [execCbWr, same_width]
  rfl

/-- Settles O41. -/
theorem cbWrStoresOneEntry : Obligations.CbWrStoresOneEntry := by
  intro s idx v running
  have stores : exec (.cbWr idx v) s = cbWriteBody idx v (beginCommand 0x20 s) :=
    (exec_cbWr idx v s).trans (command_running 0x20 _ s running)
  exact ⟨s.cb.write idx.toNat v, stores, Memory.read_write_same _ _ v, fun j other => Memory.read_write_other _ _ j v other,
    Memory.wf_write s.cb idx v⟩

theorem cbReadBody_of_some {idx : BitVec 6} {s : State} {v : BitVec 16} (written : s.cb.read idx.toNat = some v) :
    cbReadBody idx s = .next (respond (.value v) s) := by
  simp only [cbReadBody, written]

theorem cbReadBody_of_none {idx : BitVec 6} {s : State} (unwritten : s.cb.read idx.toNat = none) :
    cbReadBody idx s = .refused (.coefficientUnwritten idx.toNat) := by
  simp only [cbReadBody, unwritten]

/-- Settles O42. -/
theorem cbRdReturnsTheEntry : Obligations.CbRdReturnsTheEntry := by
  intro s idx running
  have runs : exec (.cbRd idx) s = cbReadBody idx (beginCommand 0x21 s) := command_running 0x21 _ s running
  refine ⟨fun v written => ?_, fun unwritten => ?_⟩
  · rw [runs, cbReadBody_of_some (s := beginCommand 0x21 s) written]; rfl
  · rw [runs, cbReadBody_of_none (s := beginCommand 0x21 s) unwritten]

/-! ### The body of `IDCT.BLK` (R183) -/

section
variable {m : Memory} {s : State}

theorem firstUnwritten_of_written (written : ∀ i, i < 64 → m.read i ≠ none) : firstUnwritten m 0 64 = none := by
  obtain ⟨none_found, -⟩ | ⟨k, -, -, k_lt, unwritten, -⟩ := firstUnwritten_cases m 0 64
  · exact none_found
  · exact absurd unwritten (written k (by omega))

theorem firstUnwritten_of_first {i : Nat} (hi : i < 64) (unwritten : m.read i = none) (first : ∀ j, j < i → m.read j ≠ none) :
    firstUnwritten m 0 64 = some i := by
  obtain ⟨-, written⟩ | ⟨k, found, -, -, k_unwritten, k_first⟩ := firstUnwritten_cases m 0 64
  · exact absurd unwritten (written i (Nat.zero_le i) (by omega))
  · have not_before : ¬ k < i := fun before => first k before k_unwritten
    have not_after : ¬ i < k := fun after => k_first i (Nat.zero_le i) after unwritten
    rw [found, show k = i by omega]

/-- The coefficients of a block are in the range of R183. -/
def InCoefRange (b : Block) : Prop := ∀ y x : Fin 8, -2048 ≤ (b.get y).get x ∧ (b.get y).get x ≤ 2047

theorem all_coefLegal_iff (b : Block) : b.all (Vec8.all coefLegal) = true ↔ InCoefRange b := by
  simp only [Vec8.all_eq_true, coefLegal, Bool.and_eq_true, decide_eq_true_eq]
  rfl

theorem idctBody_of_some {i : Nat} (found : firstUnwritten s.cb 0 64 = some i) : idctBody s = .refused (.coefficientUnwritten i) := by
  simp only [idctBody, found]

theorem idctBody_of_inRange (written : firstUnwritten s.cb 0 64 = none) (legal : InCoefRange (blockOf s.cb)) :
    idctBody s = .next (respond .ok { s with cb := memoryOf (idct2d (blockOf s.cb)) }) := by
  simp only [idctBody, written, (all_coefLegal_iff _).2 legal, if_true]

theorem idctBody_of_not_inRange (written : firstUnwritten s.cb 0 64 = none) (illegal : ¬ InCoefRange (blockOf s.cb)) :
    idctBody s = .next (raise .protocolError s) := by
  simp only [idctBody, written]
  exact if_neg (mt (all_coefLegal_iff _).1 illegal)

/-- The three ways `IDCT.BLK` goes. -/
theorem idctBody_cases (s : State) :
    (∃ i, idctBody s = .refused (.coefficientUnwritten i)) ∨
      (∃ cb, idctBody s = .next (respond .ok { s with cb := cb })) ∨ idctBody s = .next (raise .protocolError s) := by
  cases found : firstUnwritten s.cb 0 64 with
  | some i => exact .inl ⟨i, idctBody_of_some found⟩
  | none =>
    by_cases legal : InCoefRange (blockOf s.cb)
    · exact .inr (.inl ⟨_, idctBody_of_inRange found legal⟩)
    · exact .inr (.inr (idctBody_of_not_inRange found legal))

theorem get_blockOf_of_read {y x : Fin 8} {v : BitVec 16} (written : m.read (8 * y + x) = some v) :
    ((blockOf m).get y).get x = v.toInt := by
  rw [get_blockOf, entryInt, written]; rfl

end

/-- Each index of the buffer is the one of a row and a column (20_memory.md R61). -/
theorem exists_row_column {i : Nat} (hi : i < 64) : ∃ y x : Fin 8, 8 * (y : Nat) + x = i :=
  ⟨⟨i / 8, by omega⟩, ⟨i % 8, by omega⟩, Nat.div_add_mod i 8⟩

/-- Settles O44. -/
theorem idctBlkRejectsBadBlocks : Obligations.IdctBlkRejectsBadBlocks := by
  intro s running
  have runs : exec .idctBlk s = idctBody (beginCommand 0x22 s) := command_running 0x22 _ s running
  refine ⟨fun written outside => ?outOfRange, fun i hi unwritten first => ?unwritten⟩
  case outOfRange =>
    obtain ⟨i, v, hi, read, outside⟩ := outside
    obtain ⟨y, x, rfl⟩ := exists_row_column hi
    have illegal : ¬ InCoefRange (blockOf s.cb) := fun legal => by
      have inside := legal y x
      rw [get_blockOf_of_read read] at inside
      omega
    rw [runs, idctBody_of_not_inRange (s := beginCommand 0x22 s) (firstUnwritten_of_written written) illegal,
      raise_of_not_err _ (beginCommand 0x22 s) running]
    rfl
  case unwritten =>
    rw [runs, idctBody_of_some (s := beginCommand 0x22 s) (firstUnwritten_of_first hi unwritten first)]

/-! ### What the IDCT unit leaves alone (R180) -/

/-- The cursor, the stream, the MVR registers and the port are the same. -/
structure SameOutsideBuffer (s t : State) : Prop where
  pos : t.pos = s.pos
  bs : t.bs = s.bs
  mvrF : t.mvrF = s.mvrF
  mvrB : t.mvrB = s.mvrB
  port : t.port = s.port

theorem sameOutsideBuffer_refuse (s : State) : SameOutsideBuffer s (refuse s) := ⟨rfl, rfl, rfl, rfl, rfl⟩

theorem sameOutsideBuffer_raise (k : ErrorKind) (s : State) : SameOutsideBuffer s (raise k s) :=
  ⟨raise_pos k s, raise_bs k s, raise_mvrF k s, raise_mvrB k s, raise_port k s⟩

theorem sameOutsideBuffer_respond (r : Response) (s : State) (cb : Memory) :
    SameOutsideBuffer s (respond r { s with cb := cb }) := ⟨rfl, rfl, rfl, rfl, rfl⟩

/-- A body that leaves all but the buffer alone does so as a command. -/
theorem sameOutsideBuffer_command {op : BitVec 8} {body : State → Outcome} {s t : State}
    (keeps : ∀ t, body (beginCommand op s) = .next t → SameOutsideBuffer (beginCommand op s) t) (ran : command op body s = .next t) :
    SameOutsideBuffer s t := by
  cases stopped : s.err with
  | true =>
    rw [command_refused op body s stopped] at ran
    obtain rfl := Host.Outcome.next.inj ran
    exact sameOutsideBuffer_refuse s
  | false =>
    rw [command_running op body s stopped] at ran
    obtain ⟨pos, bs, mvrF, mvrB, port⟩ := keeps t ran
    exact ⟨pos, bs, mvrF, mvrB, port⟩

theorem cbReadBody_cases {idx : BitVec 6} {s t : State} (ran : cbReadBody idx s = .next t) : ∃ v, t = respond (.value v) s := by
  cases written : s.cb.read idx.toNat with
  | none => rw [cbReadBody_of_none written] at ran; cases ran
  | some v => exact ⟨v, Host.Outcome.next.inj (ran.symm.trans (cbReadBody_of_some written))⟩

theorem sameOutsideBuffer_idctBody {s t : State} (ran : idctBody s = .next t) : SameOutsideBuffer s t := by
  obtain ⟨i, refused⟩ | ⟨cb, done⟩ | raised := idctBody_cases s
  · rw [refused] at ran; cases ran
  · obtain rfl := Host.Outcome.next.inj (done.symm.trans ran)
    exact sameOutsideBuffer_respond _ s cb
  · obtain rfl := Host.Outcome.next.inj (raised.symm.trans ran)
    exact sameOutsideBuffer_raise _ s

theorem sameOutsideBuffer_of_exec {i : Instr} {s t : State} (idct : isIdct i = true) (ran : exec i s = .next t) :
    SameOutsideBuffer s t := by
  cases i with
  | cbWr idx v =>
    rw [exec_cbWr] at ran
    refine sameOutsideBuffer_command (fun u ran => ?_) ran
    obtain rfl := Host.Outcome.next.inj ran
    exact sameOutsideBuffer_respond _ _ _
  | cbRd idx =>
    refine sameOutsideBuffer_command (op := 0x21) (fun u ran => ?_) ran
    obtain ⟨v, rfl⟩ := cbReadBody_cases ran
    exact sameOutsideBuffer_respond _ _ _
  | idctBlk => exact sameOutsideBuffer_command (op := 0x22) (fun u ran => sameOutsideBuffer_idctBody ran) ran
  | _ => cases idct

theorem exec_cbRd_cb {idx : BitVec 6} {s t : State} (ran : exec (.cbRd idx) s = .next t) : t.cb = s.cb := by
  change command 0x21 (cbReadBody idx) s = .next t at ran
  cases stopped : s.err with
  | true =>
    rw [command_refused _ _ s stopped] at ran
    exact Host.Outcome.next.inj ran ▸ rfl
  | false =>
    rw [command_running _ _ s stopped] at ran
    obtain ⟨v, rfl⟩ := cbReadBody_cases ran
    rfl

/-- Settles O50. -/
theorem idctUnitLeavesCursorAndMvrAlone : Obligations.IdctUnitLeavesCursorAndMvrAlone := by
  intro i s t idct ran
  obtain ⟨pos, bs, mvrF, mvrB, port⟩ := sameOutsideBuffer_of_exec idct ran
  refine ⟨pos, bs, mvrF, mvrB, port, ?_⟩
  rintro ⟨idx, rfl⟩
  exact exec_cbRd_cb ran

/-! ### The kernel as its matrix, and its bounds (R187, R189) -/

/-- An output of the network is its row of the matrix multiplied out. -/
theorem get_butterfly (v : Vec8 Int) (n : Fin 8) : (butterfly v).get n = ∑ k : Fin 8, kernelEntry n k * v.get k := by
  have from_list : (butterfly v).get n = (butterfly v).toList.getD n 0 := by fin_cases n <;> rfl
  rw [from_list, InverseDct.butterflyIsTheKernelMatrix v, Fin.sum_univ_eight]
  fin_cases n <;> exact InverseDct.sum_zipWith_toList _ _ _ _ _ _ _ _ v

/-- One output of the 1-D kernel of the spec. -/
theorem get_run_idct1d (shift : Nat) (v : Vec8 Int) (n : Fin 8) :
    (Config.idct1d.run shift v).get n = nearestAway (∑ k : Fin 8, kernelEntry n k * v.get k) shift := by
  rw [get_run, Rounding.rndShift_eq_nearestAway]
  exact congrArg (nearestAway · shift) (get_butterfly v n)

theorem sum_abs_kernelEntry_le : ∀ n : Fin 8, ∑ k : Fin 8, |kernelEntry n k| ≤ 31340544 := by decide

theorem abs_kernelRow_le {v : Vec8 Int} {B : Int} (h : ∀ k, |v.get k| ≤ B) (n : Fin 8) :
    |∑ k : Fin 8, kernelEntry n k * v.get k| ≤ 31340544 * B := by
  have nonneg : 0 ≤ B := (abs_nonneg _).trans (h 0)
  calc |∑ k : Fin 8, kernelEntry n k * v.get k|
      ≤ ∑ k : Fin 8, |kernelEntry n k * v.get k| := Finset.abs_sum_le_sum_abs _ _
    _ ≤ ∑ k : Fin 8, |kernelEntry n k| * B :=
        Finset.sum_le_sum fun k _ => (abs_mul _ _).trans_le (mul_le_mul_of_nonneg_left (h k) (abs_nonneg _))
    _ = (∑ k : Fin 8, |kernelEntry n k|) * B := (Finset.sum_mul _ _ _).symm
    _ ≤ 31340544 * B := mul_le_mul_of_nonneg_right (sum_abs_kernelEntry_le n) nonneg

/-- Rounding keeps a bound on the magnitude, rounded. -/
theorem abs_nearestAway_le {v B : Int} (h : |v| ≤ B) (s : Nat) : |nearestAway v s| ≤ (B + 2 ^ (s - 1)) / 2 ^ s := by
  have quotient_nonneg : 0 ≤ (|v| + 2 ^ (s - 1)) / 2 ^ s := by positivity
  have sign_le : |v.sign| ≤ 1 := by obtain h | h | h := lt_trichotomy v 0 <;> simp [Int.sign_eq_neg_one_of_neg, Int.sign_eq_one_of_pos, h]
  calc |nearestAway v s| = |v.sign| * ((|v| + 2 ^ (s - 1)) / 2 ^ s) := by rw [nearestAway, abs_mul, abs_of_nonneg quotient_nonneg]
    _ ≤ (|v| + 2 ^ (s - 1)) / 2 ^ s := mul_le_of_le_one_left quotient_nonneg sign_le
    _ ≤ (B + 2 ^ (s - 1)) / 2 ^ s := Int.ediv_le_ediv (by positivity) (by omega)

theorem abs_get_run_le {v : Vec8 Int} {B : Int} (h : ∀ k, |v.get k| ≤ B) (shift : Nat) (n : Fin 8) :
    |(Config.idct1d.run shift v).get n| ≤ (31340544 * B + 2 ^ (shift - 1)) / 2 ^ shift := by
  rw [get_run_idct1d]
  exact abs_nearestAway_le (abs_kernelRow_le h n) shift

/-- Row `y` of the row pass, and column `x` of the column pass, as runs of the kernel. -/
theorem get_rowPass_eq_run (k : Config.Kernel) (b : Block) (y x : Fin 8) :
    ((rowPass k b).get y).get x = (k.run Config.sRow (b.get y)).get x := by rw [get_rowPass, get_run]

theorem get_idctWith (k : Config.Kernel) (b : Block) (y x : Fin 8) :
    ((idctWith k b).get y).get x = (k.run Config.sCol ((transpose (rowPass k b)).get x)).get y := by
  rw [idctWith_eq, get_columnPass, get_run]

theorem rowPass_bounded {b : Block} (legal : InCoefRange b) (y x : Fin 8) :
    |((rowPass Config.idct1d b).get y).get x| ≤ 122424 := by
  have inputs (k : Fin 8) : |(b.get y).get k| ≤ 2048 := abs_le.2 (by have := legal y k; constructor <;> omega)
  rw [get_rowPass_eq_run]
  exact (abs_get_run_le inputs Config.sRow x).trans (by decide)

theorem residual_bounded {b : Block} (legal : InCoefRange b) (y x : Fin 8) : |((idct2d b).get y).get x| ≤ 14293 := by
  have inputs (k : Fin 8) : |((transpose (rowPass Config.idct1d b)).get x).get k| ≤ 122424 := by
    rw [get_transpose]; exact rowPass_bounded legal k x
  rw [idct2d, get_idctWith]
  exact (abs_get_run_le inputs Config.sCol y).trans (by decide)

/-! ### The intermediates of the network (R189) -/

theorem butterfly_mem_intermediates (v : Vec8 Int) : ∀ y ∈ (butterfly v).toList, y ∈ kernelIntermediates v := by
  have outputs : (butterfly v).toList = (kernelIntermediates v).drop 40 := by
    simp only [kernelIntermediates, List.drop_succ_cons, List.drop_zero, butterfly, Vec8.toList, K0, K1, K2, K3, K4, K5, K6, K7, K8,
      KR, List.cons.injEq, and_true]
    and_intros <;> ring
  intro y hy
  exact List.mem_of_mem_drop (outputs ▸ hy)

theorem intermediate_bounded {v : Vec8 Int} (inputs : ∀ k : Fin 8, |v.get k| ≤ 122424) :
    ∀ x ∈ kernelIntermediates v, -2 ^ 42 ≤ x ∧ x < 2 ^ 42 := by
  obtain ⟨v0, v1, v2, v3, v4, v5, v6, v7⟩ := v
  have i0 := abs_le.1 (inputs 0); have i1 := abs_le.1 (inputs 1); have i2 := abs_le.1 (inputs 2); have i3 := abs_le.1 (inputs 3)
  have i4 := abs_le.1 (inputs 4); have i5 := abs_le.1 (inputs 5); have i6 := abs_le.1 (inputs 6); have i7 := abs_le.1 (inputs 7)
  simp only [Vec8.get] at i0 i1 i2 i3 i4 i5 i6 i7
  clear inputs
  simp only [kernelIntermediates, List.forall_mem_cons, List.not_mem_nil, false_imp_iff, implies_true, and_true]
  and_intros <;> omega

/-- Settles O47. -/
theorem idctOutputsAreBounded : Obligations.IdctOutputsAreBounded := by
  refine ⟨fun b legal y x => ⟨rowPass_bounded legal y x, residual_bounded legal y x⟩, by decide +kernel, by decide +kernel,
    fun v inputs => ⟨butterfly_mem_intermediates v, fun x hx => ?_⟩⟩
  obtain ⟨lo, hi⟩ := intermediate_bounded inputs x hx
  simp only [Config.accW]
  omega

/-! ### The transform of the buffer (R183, R188) -/

/-- Settles O43: the residuals fit the 16 bits of an entry because they are bounded. -/
theorem idctBlkTransformsTheBuffer : Obligations.IdctBlkTransformsTheBuffer := by
  intro s c running coefficients
  have get_block (y x : Fin 8) : ((blockOf s.cb).get y).get x = (c y x).toInt :=
    get_blockOf_of_read (coefficients y x).1
  have legal : InCoefRange (blockOf s.cb) := fun y x => get_block y x ▸ (coefficients y x).2
  have written : firstUnwritten s.cb 0 64 = none := firstUnwritten_of_written fun i hi => by
    obtain ⟨y, x, rfl⟩ := exists_row_column hi
    rw [(coefficients y x).1]; simp
  have runs : exec .idctBlk s = idctBody (beginCommand 0x22 s) := command_running 0x22 _ s running
  refine ⟨memoryOf (idct2d (blockOf s.cb)), fun r n => ((rowPass Config.idct1d (blockOf s.cb)).get r).get n,
    runs.trans (idctBody_of_inRange (s := beginCommand 0x22 s) written legal), wf_memoryOf _, fun r n => ?rows, fun n x => ?columns⟩
  case rows =>
    refine (get_rowPass_eq_run Config.idct1d (blockOf s.cb) r n).trans ((get_run_idct1d _ _ n).trans ?_)
    simp only [get_block]
    rfl
  case columns =>
    have small := abs_le.1 (residual_bounded legal n x)
    have entry := toInt_ofInt_cbW (((idct2d (blockOf s.cb)).get n).get x) (by omega) (by omega)
    refine ⟨_, read_memoryOf _ n x, ?_, get_block n x, entry⟩
    rw [← show Config.cbW = 16 from rfl, entry, idct2d, get_idctWith, get_run_idct1d]
    simp only [get_transpose]
    rfl

/-! ### Odd symmetry (R183, R191) -/

/-- A row with every entry negated. -/
def negRow (v : Vec8 Int) : Vec8 Int := v.map fun x => -x

theorem get_injective {α : Type} {a b : Vec8 α} (h : ∀ i, a.get i = b.get i) : a = b := by
  have toList_eq_ofFn (v : Vec8 α) : v.toList = List.ofFn v.get := rfl
  exact InverseDct.toList_injective (by rw [toList_eq_ofFn, toList_eq_ofFn, funext h])

theorem get_zipWith {α β γ : Type} (g : α → β → γ) (a : Vec8 α) (b : Vec8 β) (i : Fin 8) :
    (Vec8.zipWith g a b).get i = g (a.get i) (b.get i) := by
  fin_cases i <;> rfl

theorem get_negRow (v : Vec8 Int) (i : Fin 8) : (negRow v).get i = -v.get i := Vec8.get_map _ v i

section
variable {k : Config.Kernel}

/-- An additive network gives nothing for nothing. -/
theorem network_zero (admissible : k.Admissible) : k.network (InverseDct.uniform 0) = InverseDct.uniform 0 := by
  refine get_injective fun i => ?_
  have doubled : k.network (InverseDct.uniform 0) = _ := admissible (InverseDct.uniform 0) (InverseDct.uniform 0)
  have at_i := congrArg (Vec8.get · i) doubled
  simp only [get_zipWith] at at_i
  rw [InverseDct.get_uniform]
  omega

theorem network_negRow (admissible : k.Admissible) (v : Vec8 Int) : k.network (negRow v) = negRow (k.network v) := by
  have cancels : Vec8.zipWith (· + ·) v (negRow v) = InverseDct.uniform 0 :=
    get_injective fun i => by rw [get_zipWith, get_negRow, InverseDct.get_uniform, Int.add_right_neg]
  refine get_injective fun i => ?_
  have at_i := congrArg (Vec8.get · i) (admissible v (negRow v))
  simp only [cancels, network_zero admissible, get_zipWith, InverseDct.get_uniform] at at_i
  rw [get_negRow]
  omega

theorem run_negRow (admissible : k.Admissible) (shift : Nat) (v : Vec8 Int) : k.run shift (negRow v) = negRow (k.run shift v) :=
  get_injective fun i => by
    rw [get_run, network_negRow admissible, get_negRow, get_negRow, Rounding.rndShift_neg, get_run]

theorem map_run_negRow (admissible : k.Admissible) (shift : Nat) (b : Block) :
    (b.map negRow).map (k.run shift) = (b.map (k.run shift)).map negRow :=
  get_injective fun i => by simp only [Vec8.get_map, run_negRow admissible]

theorem transpose_map_negRow (b : Block) : transpose (b.map negRow) = (transpose b).map negRow := rfl

theorem idctWith_negRow (admissible : k.Admissible) (b : Block) : idctWith k (b.map negRow) = (idctWith k b).map negRow := by
  simp only [idctWith_eq, rowPass, columnPass, map_run_negRow admissible, transpose_map_negRow]

end

/-- The kernel the spec takes is its matrix, so it is additive. -/
theorem idct1d_admissible : Config.idct1d.Admissible := fun a b => get_injective fun n => by
  have is_matrix (v : Vec8 Int) : (Config.idct1d.network v).get n = _ := get_butterfly v n
  simp only [get_zipWith, is_matrix, mul_add, Finset.sum_add_distrib]

/-- Settles O48. -/
theorem idctIsOddSymmetric : Obligations.IdctIsOddSymmetric :=
  ⟨idctWith_negRow idct1d_admissible, idct1d_admissible,
    fun _ admissible => ⟨run_negRow admissible, idctWith_negRow admissible⟩⟩

end Sys2Proof.Residuals
